-- ==== Sys2Proof/Word.lean ====
section
/-! DEFINITION. The plain data the VCF block computes on (spec/00_scope.md R9, R10): a byte is 8 bits, a word
is 32 bits, bit 0 is the least significant; a byte sequence is a list indexed from 0. There is no signed value. -/

namespace Sys2Proof

/-- `u8` of R9: a byte of a buffer, a command code, a sequence number. -/
abbrev Byte := BitVec 8

/-- `u32` of R9: the accumulator, a checksum, a table entry, `app_crc`. -/
abbrev Word := BitVec 32

/-- A byte sequence of R10, `s[0]` first; its length is the list's length. -/
abbrev Bytes := List Byte

end Sys2Proof
end

