-- ==== Sys2Proof/Syntax.lean ====
section
/-! DEFINITION. The names the spec fixes and the instructions: the device errors and host outcomes (R47, R48),
what the host puts on the block's ports (R22, R28, R50), and one constructor of `Instr` for each row of
spec/opcode_table.json: the eight commands of R49 and the ten wire-packet rows of R60. -/

namespace Sys2Proof

/-- The closed set of seven errors a device reports in byte 1 of an ACK, in the spec's listing order (R47). -/
inductive DeviceError
  | none
  | packetOverrun
  | enterDfuNotRequested
  | outOfSequence
  | invalidMessageId
  | sizeTooLarge
  | internalError
  deriving DecidableEq, Repr

/-- The nine outcomes of AV.VALIDATE (R48): the seven device names and two more. -/
inductive HostOutcome
  | none
  | packetOverrun
  | enterDfuNotRequested
  | outOfSequence
  | invalidMessageId
  | sizeTooLarge
  | internalError
  | crcMismatch
  | unknownErrorCode
  deriving DecidableEq, Repr

/-- The values the host presents on the operand ports beside a command code (R22), one port for each operand
name of R50. A command reads only the ports of its own row; the others may hold anything. -/
structure OperandPorts where
  b : Byte := 0
  buf : Bytes := []
  appSize : Nat := 0
  appCrc : Word := 0
  payload : Bytes := []
  resetSequence : Bool := false
  ack : Bytes := []
  prev : Bytes := []
  deriving DecidableEq, Repr

/-- One thing the host asks of the block.
`command`: an 8-bit code on the command port with the operand ports (R22, R49, R50).
`reply`: a received packet together with the packet sent before it, the two operands of AV.VALIDATE, where the
packet is to be told apart by the wire rows of the opcode table (R60, R52).
DEDUCED, safe: spec/90 and R60 give the rows and say a decoder for received packets can be written from them;
that such a packet is then handled as the `ack` of AV.VALIDATE is read from R89 and R107 (log entry 3). -/
inductive Request
  | command (code : Byte) (ports : OperandPorts)
  | reply (packet prev : Bytes)
  deriving DecidableEq, Repr

/-- The instructions, one constructor per row of spec/opcode_table.json.
Commands carry the operands of R50. A wire row carries the fields of its layout (R44, R45, R46) or, where the
table fixes byte 0 alone, that byte (if it is not fixed whole) and the bytes after it; and with them `prev`, the
packet the host sent last, which every received packet is validated against (R89). -/
inductive Instr
  | crcInit
  | crcByte (b : Byte)
  | crcRead
  | crcCompute (buf : Bytes)
  | frStart (appSize : Nat) (appCrc : Word)
  | frData (payload : Bytes) (resetSequence : Bool)
  | frSrst
  | avValidate (ack prev : Bytes)
  | pktStart (size : BitVec 24) (crc : Word) (prev : Bytes)
  | pktData (seq : Byte) (payload : Bytes) (prev : Bytes)
  | pktAck (err : Byte) (crc : Word) (rsv0 rsv1 : Byte) (prev : Bytes)
  | pktUnknown (rest : Bytes) (prev : Bytes)
  | pktRsv0407 (id : Byte) (rest : Bytes) (prev : Bytes)
  | pktRsv080F (id : Byte) (rest : Bytes) (prev : Bytes)
  | pktRsv101F (id : Byte) (rest : Bytes) (prev : Bytes)
  | pktRsv203F (id : Byte) (rest : Bytes) (prev : Bytes)
  | pktRsv407F (id : Byte) (rest : Bytes) (prev : Bytes)
  | pktRsv80FF (id : Byte) (rest : Bytes) (prev : Bytes)
  deriving DecidableEq, Repr

end Sys2Proof
end

