-- ==== Sys2Proof/Config.lean ====
section
/-! DEFINITION. The build-time parameters of one block instance that the spec leaves OPEN (R7): the lookup
table, the numbers of the device errors, the numbers of the two outcomes the host side adds, and the bound on
byte sequences. They are no state (R13, R125): no command writes them and reset leaves them alone. Every
statement that speaks of a state speaks of every value of them; the spec's defaults are in
Machine/Defaults.lean. -/

namespace Sys2Proof

/-- `ERRCODE` of R7 and R47: the byte each device error has on the wire. -/
structure ErrCodes where
  none : Byte
  packetOverrun : Byte
  enterDfuNotRequested : Byte
  outOfSequence : Byte
  invalidMessageId : Byte
  sizeTooLarge : Byte
  internalError : Byte
  deriving DecidableEq, Repr

/-- The parameters of R7 that are OPEN. `crcTable` is `CRC_TABLE`, 256 words indexed 0..255 (R16);
`crcMismatchCode` and `unknownErrorCode` complete `OUTCODE` (R48); `maxLen` is `MAX_LEN`, `none` for
unbounded (R38). -/
structure Params where
  crcTable : Vector Word 256
  errCode : ErrCodes
  crcMismatchCode : Byte
  unknownErrorCode : Byte
  maxLen : Option Nat
  deriving DecidableEq, Repr

end Sys2Proof
end

