-- ==== Sys2Proof/Machine/Operands.lean ====
section
/-! DEFINITION. Operand forms: slices of a named buffer, big-endian fields in a byte sequence (R10, R11, R30), and
the bound on a byte-sequence operand (R38). These are the only accesses the block makes: it has no
address-mapped memory and no alignment rule (R28, R33). -/

namespace Sys2Proof.Machine

/-- The half-open slice `s[a:b]` of R10. -/
def slice (s : Bytes) (a b : Nat) : Bytes := (s.take b).drop a

/-- The unsigned big-endian value of a byte sequence, most significant byte first (R10 `be32`, R30). -/
def beValue (s : Bytes) : Nat := s.foldl (fun v b => v * 256 + b.toNat) 0

/-- The `n`-byte big-endian image of `v` (R10 `BE24`, `BE32`): byte 0 is the most significant; bits of `v` above
the `8 * n` lowest are not in it. -/
def beBytes : Nat → Nat → Bytes
  | 0, _ => []
  | n + 1, v => BitVec.ofNat 8 (v / 256 ^ n) :: beBytes n v

/-- `MemRead(buf, i, n)` of R11: the big-endian value of the `n` bytes `buf[i : i+n]`. -/
def memRead (buf : Bytes) (i n : Nat) : Nat := beValue (slice buf i (i + n))

/-- `be32(s[i : i+4])` of R10 as a 32-bit value. -/
def readWord (buf : Bytes) (i : Nat) : Word := BitVec.ofNat 32 (memRead buf i 4)

/-- `BE32(v)` of R10. -/
def be32Bytes (v : Word) : Bytes := beBytes 4 v.toNat

/-- `BE24(v)` of R10. -/
def be24Bytes (v : BitVec 24) : Bytes := beBytes 3 v.toNat

/-- A byte-sequence operand is no longer than `MAX_LEN`; unbounded `MAX_LEN` admits every length (R38). -/
def fits (p : Params) (s : Bytes) : Bool :=
  match p.maxLen with
  | none => true
  | some m => decide (s.length ≤ m)

end Sys2Proof.Machine
end

