-- ==== Sys2Proof/Machine/Layout.lean ====
section
/-! DEFINITION. The wire: the message-kind ids (R43) and the three packet layouts, byte for byte (R44, R45, R46, R51). -/

namespace Sys2Proof.Machine

/-- `ID_UNKNOWN` of R43. -/
def idUnknown : Byte := 0x00#8
/-- `ID_START` of R43. -/
def idStart : Byte := 0x01#8
/-- `ID_ACK` of R43. -/
def idAck : Byte := 0x02#8
/-- `ID_DATA` of R43. -/
def idData : Byte := 0x03#8

/-- The length of a START and of an ACK packet (R44, R46, R52). -/
def fixedLength : Nat := 8

/-- START packet, format S (R44): id, 24-bit size, 32-bit application checksum. -/
def startPacket (size : BitVec 24) (crc : Word) : Bytes := idStart :: (be24Bytes size ++ be32Bytes crc)

/-- DATA packet, format D (R45): id, sequence byte, the payload verbatim. -/
def dataPacket (seq : Byte) (payload : Bytes) : Bytes := idData :: seq :: payload

/-- ACK packet, format A (R46): id, error byte, 32-bit checksum, two reserved bytes. -/
def ackPacket (err : Byte) (crc : Word) (rsv0 rsv1 : Byte) : Bytes :=
  idAck :: err :: (be32Bytes crc ++ [rsv0, rsv1])

end Sys2Proof.Machine
end

