-- ==== Sys2Proof/WellFormed.lean ====
section
/-! DEFINITION. Which terms of `Instr` are instructions the opcode table has: a reserved-id packet carries an
id of its own row (match and mask of spec/opcode_table.json, R53, R60). Every operand of the other rows may take
every value of its type (R50, R106). -/

namespace Sys2Proof

/-- The id byte is one the row's match and mask admit; every other row admits all its operands. -/
def Instr.wf : Instr → Bool
  | .crcInit => true
  | .crcByte _ => true
  | .crcRead => true
  | .crcCompute _ => true
  | .frStart _ _ => true
  | .frData _ _ => true
  | .frSrst => true
  | .avValidate _ _ => true
  | .pktStart _ _ _ => true
  | .pktData _ _ _ => true
  | .pktAck _ _ _ _ _ => true
  | .pktUnknown _ _ => true
  | .pktRsv0407 id _ _ => id &&& 0xFC#8 == 0x04#8
  | .pktRsv080F id _ _ => id &&& 0xF8#8 == 0x08#8
  | .pktRsv101F id _ _ => id &&& 0xF0#8 == 0x10#8
  | .pktRsv203F id _ _ => id &&& 0xE0#8 == 0x20#8
  | .pktRsv407F id _ _ => id &&& 0xC0#8 == 0x40#8
  | .pktRsv80FF id _ _ => id &&& 0x80#8 == 0x80#8

end Sys2Proof
end

