-- ==== Sys2Proof/Decode.lean ====
section
/-! DEFINITION. From what stands on the ports to an instruction, and back. A command is selected by its 8-bit code
(R49) and takes the operand ports of its row (R50); a received packet is told apart by its length and its first
byte (R52, R53, R60). Both decoders are total. Then the encoder, and `decodeTableWord`. -/

namespace Sys2Proof

open Sys2Proof.Machine

/-- Why a request has no instruction: its command code is none of the eight (R56). -/
inductive DecodeError
  | illegalCommand (code : Byte)
  deriving DecidableEq, Repr

/-- The command of a code, with the operands R50 gives it in their order; `none` for a reserved code (R49, R56). -/
def decodeCommand (code : Byte) (o : OperandPorts) : Option Instr :=
  if code = 0x01#8 then some .crcInit
  else if code = 0x02#8 then some (.crcByte o.b)
  else if code = 0x03#8 then some .crcRead
  else if code = 0x04#8 then some (.crcCompute o.buf)
  else if code = 0x10#8 then some (.frStart o.appSize o.appCrc)
  else if code = 0x11#8 then some (.frData o.payload o.resetSequence)
  else if code = 0x12#8 then some .frSrst
  else if code = 0x20#8 then some (.avValidate o.ack o.prev)
  else none

/-- The wire row a packet belongs to, with its fields: START and ACK are 8 bytes, DATA at least 2 (R44, R45, R46,
R52); the UNKNOWN and reserved rows fix bits of byte 0 alone (R53, R60). `none` for a sequence no row matches: the
empty one, and a START, ACK or DATA id at another length. -/
def decodePacket (p prev : Bytes) : Option Instr :=
  match p with
  | [] => none
  | id :: rest =>
    if id = idUnknown then some (.pktUnknown rest prev)
    else if id = idStart then
      if p.length = fixedLength then
        some (.pktStart (BitVec.ofNat 24 (memRead p 1 3)) (readWord p 4) prev)
      else none
    else if id = idAck then
      if p.length = fixedLength then
        some (.pktAck (p.getD 1 0) (readWord p 2) (p.getD 6 0) (p.getD 7 0) prev)
      else none
    else if id = idData then
      match rest with
      | [] => none
      | seq :: payload => some (.pktData seq payload prev)
    else if id &&& 0xFC#8 = 0x04#8 then some (.pktRsv0407 id rest prev)
    else if id &&& 0xF8#8 = 0x08#8 then some (.pktRsv080F id rest prev)
    else if id &&& 0xF0#8 = 0x10#8 then some (.pktRsv101F id rest prev)
    else if id &&& 0xE0#8 = 0x20#8 then some (.pktRsv203F id rest prev)
    else if id &&& 0xC0#8 = 0x40#8 then some (.pktRsv407F id rest prev)
    else some (.pktRsv80FF id rest prev)

/-- A received packet: its wire row; a sequence that is no packet of any row is still an `ack` operand of
AV.VALIDATE, which gives every byte sequence an outcome (R111). DEDUCED, safe (log entry 3). -/
def decodeReply (p prev : Bytes) : Instr :=
  (decodePacket p prev).getD (.avValidate p prev)

/-- The instruction a request asks for, or the name of the reason it asks for none. -/
def decode : Request → Except DecodeError Instr
  | .command code ports =>
    match decodeCommand code ports with
    | some i => .ok i
    | none => .error (.illegalCommand code)
  | .reply packet prev => .ok (decodeReply packet prev)

/-- The request of an instruction: a command's code and operand ports (R49, R50), or a packet's bytes. -/
def encode : Instr → Request
  | .crcInit => .command 0x01 {}
  | .crcByte b => .command 0x02 { b := b }
  | .crcRead => .command 0x03 {}
  | .crcCompute buf => .command 0x04 { buf := buf }
  | .frStart size crc => .command 0x10 { appSize := size, appCrc := crc }
  | .frData payload reset => .command 0x11 { payload := payload, resetSequence := reset }
  | .frSrst => .command 0x12 {}
  | .avValidate ack prev => .command 0x20 { ack := ack, prev := prev }
  | .pktStart size crc prev => .reply (startPacket size crc) prev
  | .pktData seq payload prev => .reply (dataPacket seq payload) prev
  | .pktAck err crc rsv0 rsv1 prev => .reply (ackPacket err crc rsv0 rsv1) prev
  | .pktUnknown rest prev => .reply (idUnknown :: rest) prev
  | .pktRsv0407 id rest prev => .reply (id :: rest) prev
  | .pktRsv080F id rest prev => .reply (id :: rest) prev
  | .pktRsv101F id rest prev => .reply (id :: rest) prev
  | .pktRsv203F id rest prev => .reply (id :: rest) prev
  | .pktRsv407F id rest prev => .reply (id :: rest) prev
  | .pktRsv80FF id rest prev => .reply (id :: rest) prev

/-- The bytes of a table word of `n` bytes. The table writes an 8-byte packet as a 64-bit image with byte 0
leftmost (R60); every other row is numbered from byte 0 up. -/
def tableBytes (n w : Nat) : Bytes :=
  if n = 8 then beBytes 8 w else (beBytes n w).reverse

/-- The request a word of spec/opcode_table.json stands for, its operands all zero (log entry 4).
Eight bits are a command code when they are one of the eight codes (R49); otherwise they are byte 0 of a packet
of a row that fixes byte 0 alone, the bytes after it zero up to the 8 bytes of a reply (R53). More bits are a packet.
A packet's previous packet is one zero byte. -/
def tableRequest (nbits w : Nat) : Request :=
  if nbits ≤ 8 then
    match decodeCommand (BitVec.ofNat 8 w) {} with
    | some _ => .command (BitVec.ofNat 8 w) {}
    | none => .reply (BitVec.ofNat 8 w :: List.replicate 7 0) [0]
  else .reply (tableBytes (nbits / 8) w) [0]

/-- The instruction the decoder reads from a word of the opcode table. -/
def decodeTableWord (nbits w : Nat) : Option Instr :=
  match decode (tableRequest nbits w) with
  | .ok i => some i
  | .error _ => none

end Sys2Proof
end

