-- ==== Sys2Proof/Machine/Flags.lean ====
section
/-! DEFINITION. The block has no status flags (R18); the one condition-like value is the outcome AV.VALIDATE returns.
This file decides it: the error byte's decoding (R47, R55), the outcome of a device error and its number (R48), and
the outcome that steps 1 to 4 of R90 reach. -/

namespace Sys2Proof.Machine

/-- The seven device errors, in the order R47 lists them. -/
def deviceErrors : List DeviceError :=
  [.none, .packetOverrun, .enterDfuNotRequested, .outOfSequence, .invalidMessageId, .sizeTooLarge,
    .internalError]

/-- `ERRCODE(N)` of R47. -/
def errByte (c : ErrCodes) : DeviceError → Byte
  | .none => c.none
  | .packetOverrun => c.packetOverrun
  | .enterDfuNotRequested => c.enterDfuNotRequested
  | .outOfSequence => c.outOfSequence
  | .invalidMessageId => c.invalidMessageId
  | .sizeTooLarge => c.sizeTooLarge
  | .internalError => c.internalError

/-- `decode_err(e)` of R47: the error whose code is `e`; `none` when `e` is not known. `ERRCODE` is injective
(`Params.wf`), so no error stands before another of the same code. -/
def decodeErr (c : ErrCodes) (e : Byte) : Option DeviceError :=
  deviceErrors.find? (fun n => errByte c n == e)

/-- `outcome_of(N)` of R48: the host outcome of the same name. -/
def outcomeOf : DeviceError → HostOutcome
  | .none => .none
  | .packetOverrun => .packetOverrun
  | .enterDfuNotRequested => .enterDfuNotRequested
  | .outOfSequence => .outOfSequence
  | .invalidMessageId => .invalidMessageId
  | .sizeTooLarge => .sizeTooLarge
  | .internalError => .internalError

/-- `OUTCODE` of R48: `ERRCODE` on the seven shared names, and a number for each of the two others. No rule and no
meaning uses the numbers. -/
def outcomeNumber (p : Params) : HostOutcome → Byte
  | .none => p.errCode.none
  | .packetOverrun => p.errCode.packetOverrun
  | .enterDfuNotRequested => p.errCode.enterDfuNotRequested
  | .outOfSequence => p.errCode.outOfSequence
  | .invalidMessageId => p.errCode.invalidMessageId
  | .sizeTooLarge => p.errCode.sizeTooLarge
  | .internalError => p.errCode.internalError
  | .crcMismatch => p.crcMismatchCode
  | .unknownErrorCode => p.unknownErrorCode

/-- The outcome AV.VALIDATE reaches in steps 1 to 4 of R90, first condition first (R108); `none` when step 5
is reached. Step 1 (R91): the length is not 8. Step 2 (R92): the id is not the ACK id. Step 3 (R93): the error
byte is not known. Step 4 (R94): the error is not NONE. Nothing of the previous packet is looked at. -/
def earlyOutcome (c : ErrCodes) (ack : Bytes) : Option HostOutcome :=
  if ack.length ≠ fixedLength then some .sizeTooLarge
  else if ack.getD 0 0 ≠ idAck then some .invalidMessageId
  else
    match decodeErr c (ack.getD 1 0) with
    | none => some .unknownErrorCode
    | some .none => none
    | some n => some (outcomeOf n)

end Sys2Proof.Machine
end

