-- ==== Sys2Proof/Machine/State.lean ====
section
/-! DEFINITION. The state of one block instance: the two registers ACC and SEQ, which are all the architectural state
there is (R13); the constants the instance was built with (R7, R125); and what has crossed its ports in a run (R22,
R140): the requests the host has still to issue, the values returned, the diagnostic records. The reasons a step can
stop, and the state after reset (R122). -/

namespace Sys2Proof.Machine

/-- A value on the result port (R22, R50): nothing, a `u32`, a byte sequence, or a host outcome by name. -/
inductive Result
  | nothing
  | word (v : Word)
  | bytes (out : Bytes)
  | outcome (o : HostOutcome)
  deriving DecidableEq, Repr

/-- The diagnostic record of R99 and R118. -/
structure Diag where
  computed : Word
  received : Word
  ack : Bytes
  prev : Bytes
  deriving DecidableEq, Repr

/-- The block raises no exception and no behaviour of it is a fault (R102; spec/93: "No behaviour of this block is
treated as `fault` or `stuck`"), so there is no reason to fault and no constructor: a step never faults. DEDUCED, safe
(log entry 14). -/
inductive Fault : Type
  deriving DecidableEq, Repr

/-- The requests the spec gives no meaning to (R106). A refused request has no next state and no result. -/
inductive Refusal
  /-- An instruction without a meaning, by name. Raised by an arm of `exec` that is not written; no arm is left so.
  Safe: the machine stops. -/
  | notModelled (mnemonic : String)
  /-- R106 (a), R56: a command code that is none of the eight. Raised by `step`. Safe: the machine stops. -/
  | illegalCommand (code : Byte)
  /-- R106 (b), R38: a byte-sequence operand longer than a finite `MAX_LEN`. Raised by CRC.COMPUTE, FR.DATA,
  AV.VALIDATE and the received packets. Safe: the machine stops. -/
  | operandTooLong
  /-- R106 (c), R98: step 5 of the validation reached with an empty previous packet. Raised by AV.VALIDATE and by a
  received ACK packet. Safe: the machine stops (log entry 9). -/
  | emptyPrevious
  deriving DecidableEq, Repr

/-- One block instance and its ports. -/
structure State where
  /-- `ACC`, the Checksum Engine's accumulator (R14). -/
  acc : Word
  /-- `SEQ`, the Packet Codec's sequence counter (R15). -/
  seq : Byte
  /-- The instance's build-time constants (R7, R16, R125). DESIGN CHOICE, safe: carried here because a step takes
  a state and nothing else; no step changes them (log entry 5). -/
  params : Params
  /-- The commands and replies the host issues next, first first (R39, R140). The MODEL's own field (log entry 6). -/
  requests : List Request
  /-- The values returned on the result port so far, first first (R22, R140). The MODEL's own field (log entry 7). -/
  results : List Result
  /-- The records emitted on the diagnostic port so far, first first (R118, R140). The MODEL's own field
  (log entry 7). -/
  diags : List Diag
  deriving DecidableEq, Repr

/-- An instance with parameters `p` after reset (R122): ACC and SEQ at their reset values, no command in progress, no
result and no DIAG record pending. -/
def State.resetWith (p : Params) : State where
  acc := accReset
  seq := seqReset
  params := p
  requests := []
  results := []
  diags := []

/-- The default instance after reset (R7, R122). -/
def State.reset : State := State.resetWith defaultParams

end Sys2Proof.Machine
end

