-- ==== Sys2Proof/Machine/Ops.lean ====
section
/-! DEFINITION. The named operations the meanings are made of: register writes, the result and diagnostic ports, the
checksum (R62, R63), and the five-step validation (R90) that AV.VALIDATE and every received packet share. The block
takes no exception and returns from none (R102, R109, R110), so there is no such operation. -/

namespace Sys2Proof.Machine

/-- `ACC <- v`. -/
def State.setAcc (s : State) (v : Word) : State := { s with acc := v }

/-- `SEQ <- v`. -/
def State.setSeq (s : State) (v : Byte) : State := { s with seq := v }

/-- `return r`: one value on the result port (R11, R22). -/
def State.deliver (s : State) (r : Result) : State := { s with results := s.results ++ [r] }

/-- `emit DIAG(d)`: one record on the diagnostic port (R11, R118). -/
def State.emitDiag (s : State) (d : Diag) : State := { s with diags := s.diags ++ [d] }

/-- `crc_step(acc, b)` of R62: the top byte of the accumulator, combined with the input byte, selects the table entry;
the accumulator moves up by 8 bits and the entry is exclusive-ored in. -/
def crcStep (table : Vector Word 256) (acc : Word) (b : Byte) : Word :=
  let idx : Byte := ((acc >>> 24) ^^^ b.setWidth 32).setWidth 8
  (acc <<< 8) ^^^ table[idx.toNat]

/-- `crc_from(acc, buf)` of R63: the steps over `buf` in increasing index order. -/
def crcFrom (table : Vector Word 256) (acc : Word) (buf : Bytes) : Word := buf.foldl (crcStep table) acc

/-- `crc(buf)` of R63: from 0xFFFFFFFF, with no final complement and no reflection (R68). -/
def crc (table : Vector Word 256) (buf : Bytes) : Word := crcFrom table crcInitial buf

/-- Step 5 of R90 (R95, R96, R99): the checksum of the previous packet without its id byte goes to ACC and is compared
with the ACK's checksum field. A mismatch emits one DIAG record. With no previous packet the request is
refused (R98). -/
def checkPrevious (ack prev : Bytes) (s : State) : Host.Outcome State Fault Refusal :=
  match prev with
  | [] => .refused .emptyPrevious
  | _ :: tail =>
    let computed := crc s.params.crcTable tail
    let received := readWord ack 2
    if computed = received then .next ((s.setAcc computed).deliver (.outcome .none))
    else
      .next (((s.setAcc computed).emitDiag ⟨computed, received, ack, prev⟩).deliver (.outcome .crcMismatch))

/-- The validation of a received byte sequence against the packet sent before it (R90). -/
def validateReply (ack prev : Bytes) (s : State) : Host.Outcome State Fault Refusal :=
  if fits s.params ack && fits s.params prev then
    match earlyOutcome s.params.errCode ack with
    | some o => .next (s.deliver (.outcome o))
    | none => checkPrevious ack prev s
  else .refused .operandTooLong

end Sys2Proof.Machine
end

