-- ==== Sys2Proof/Machine/Checksum.lean ====
section
/-! DEFINITION. The Checksum Engine's commands: CRC.INIT, CRC.BYTE, CRC.READ, CRC.COMPUTE (R61, R64 to R67). None
reads or writes SEQ. -/

namespace Sys2Proof.Machine

/-- CRC.INIT (R64): `ACC <- 0xFFFFFFFF`. -/
def execCrcInit (s : State) : Host.Outcome State Fault Refusal :=
  .next ((s.setAcc crcInitial).deliver .nothing)

/-- CRC.BYTE (R65): `ACC <- crc_step(ACC, b)`. -/
def execCrcByte (b : Byte) (s : State) : Host.Outcome State Fault Refusal :=
  .next ((s.setAcc (crcStep s.params.crcTable s.acc b)).deliver .nothing)

/-- CRC.READ (R66): `return ACC`, no complement, nothing written. -/
def execCrcRead (s : State) : Host.Outcome State Fault Refusal :=
  .next (s.deliver (.word s.acc))

/-- CRC.COMPUTE (R67): `ACC <- crc(buf)`; `return ACC`; a `buf` longer than `MAX_LEN` is refused. -/
def execCrcCompute (buf : Bytes) (s : State) : Host.Outcome State Fault Refusal :=
  if fits s.params buf then
    let v := crc s.params.crcTable buf
    .next ((s.setAcc v).deliver (.word v))
  else .refused .operandTooLong

end Sys2Proof.Machine
end

