-- ==== Sys2Proof/Machine/Framer.lean ====
section
/-! DEFINITION. The Packet Codec's commands: FR.START, FR.DATA, FR.SRST (R76, R77, R80, R85). None reads the table or
touches ACC. -/

namespace Sys2Proof.Machine

/-- FR.START (R77, R78, R79): the START packet of the low 24 bits of the size and the whole application checksum; no
register is read or written. -/
def execFrStart (appSize : Nat) (appCrc : Word) (s : State) : Host.Outcome State Fault Refusal :=
  .next (s.deliver (.bytes (startPacket (BitVec.ofNat 24 appSize) appCrc)))

/-- FR.DATA (R80 to R84): the DATA packet with sequence byte 0 when the reset flag is 1 and SEQ otherwise; SEQ then holds
the next number modulo 256. A payload longer than `MAX_LEN` is refused. -/
def execFrData (payload : Bytes) (resetSequence : Bool) (s : State) : Host.Outcome State Fault Refusal :=
  if fits s.params payload then
    let n : Byte := if resetSequence then 0 else s.seq
    .next ((s.setSeq (n + 1)).deliver (.bytes (dataPacket n payload)))
  else .refused .operandTooLong

/-- FR.SRST (R85): `SEQ <- SEQ_RESET`. -/
def execFrSrst (s : State) : Host.Outcome State Fault Refusal :=
  .next ((s.setSeq seqReset).deliver .nothing)

end Sys2Proof.Machine
end

