-- ==== Sys2Proof/Machine/Packets.lean ====
section
/-! DEFINITION. The wire-packet rows of the opcode table (R60). The PKT rows are no commands: the block's one dealing with a
packet that comes from the wire is to validate it as the `ack` of AV.VALIDATE (R89, R90), so that is what each row does:
a START, DATA, UNKNOWN or reserved-id packet is never accepted (R53, R92), an ACK packet is decoded (R90).
DEDUCED, safe (log entry 3). -/

namespace Sys2Proof.Machine

/-- PKT.START (R44, R92): a START packet received as a reply. -/
def execPktStart (size : BitVec 24) (crc : Word) (prev : Bytes) (s : State) : Host.Outcome State Fault Refusal :=
  validateReply (startPacket size crc) prev s

/-- PKT.DATA (R45, R91, R92): a DATA packet received as a reply. -/
def execPktData (seq : Byte) (payload prev : Bytes) (s : State) : Host.Outcome State Fault Refusal :=
  validateReply (dataPacket seq payload) prev s

/-- PKT.ACK (R46, R90): an ACK packet received as a reply. -/
def execPktAck (err : Byte) (crc : Word) (rsv0 rsv1 : Byte) (prev : Bytes) (s : State) :
    Host.Outcome State Fault Refusal :=
  validateReply (ackPacket err crc rsv0 rsv1) prev s

/-- PKT.UNKNOWN (R53): a packet with id 0x00 received as a reply. -/
def execPktUnknown (rest prev : Bytes) (s : State) : Host.Outcome State Fault Refusal :=
  validateReply (idUnknown :: rest) prev s

/-- PKT.RSV_04_07 (R53): a packet with an id in 0x04..0x07 received as a reply. -/
def execPktRsv0407 (id : Byte) (rest prev : Bytes) (s : State) : Host.Outcome State Fault Refusal :=
  validateReply (id :: rest) prev s

/-- PKT.RSV_08_0F (R53): a packet with an id in 0x08..0x0F received as a reply. -/
def execPktRsv080F (id : Byte) (rest prev : Bytes) (s : State) : Host.Outcome State Fault Refusal :=
  validateReply (id :: rest) prev s

/-- PKT.RSV_10_1F (R53): a packet with an id in 0x10..0x1F received as a reply. -/
def execPktRsv101F (id : Byte) (rest prev : Bytes) (s : State) : Host.Outcome State Fault Refusal :=
  validateReply (id :: rest) prev s

/-- PKT.RSV_20_3F (R53): a packet with an id in 0x20..0x3F received as a reply. -/
def execPktRsv203F (id : Byte) (rest prev : Bytes) (s : State) : Host.Outcome State Fault Refusal :=
  validateReply (id :: rest) prev s

/-- PKT.RSV_40_7F (R53): a packet with an id in 0x40..0x7F received as a reply. -/
def execPktRsv407F (id : Byte) (rest prev : Bytes) (s : State) : Host.Outcome State Fault Refusal :=
  validateReply (id :: rest) prev s

/-- PKT.RSV_80_FF (R53): a packet with an id in 0x80..0xFF received as a reply. -/
def execPktRsv80FF (id : Byte) (rest prev : Bytes) (s : State) : Host.Outcome State Fault Refusal :=
  validateReply (id :: rest) prev s

end Sys2Proof.Machine
end

