-- ==== Sys2Proof/Machine/Validator.lean ====
section
/-! DEFINITION. The Ack Validator's command, AV.VALIDATE (R89, R90). -/

namespace Sys2Proof.Machine

/-- AV.VALIDATE (R90): the five-step validation of `ack` against `prev`. -/
def execAvValidate (ack prev : Bytes) (s : State) : Host.Outcome State Fault Refusal :=
  validateReply ack prev s

end Sys2Proof.Machine
end

