-- ==== Sys2Proof/Machine/Dispatch.lean ====
section
/-! DEFINITION. The dispatch: one arm per constructor of `Instr`, each one call of its own meaning. -/

namespace Sys2Proof.Machine

def exec (i : Instr) (s : State) : Host.Outcome State Fault Refusal :=
  match i with
  | .crcInit => Sys2Proof.Machine.execCrcInit s
  | .crcByte b => Sys2Proof.Machine.execCrcByte b s
  | .crcRead => Sys2Proof.Machine.execCrcRead s
  | .crcCompute buf => Sys2Proof.Machine.execCrcCompute buf s
  | .frStart appSize appCrc => Sys2Proof.Machine.execFrStart appSize appCrc s
  | .frData payload resetSequence => Sys2Proof.Machine.execFrData payload resetSequence s
  | .frSrst => Sys2Proof.Machine.execFrSrst s
  | .avValidate ack prev => Sys2Proof.Machine.execAvValidate ack prev s
  | .pktStart size crc prev => Sys2Proof.Machine.execPktStart size crc prev s
  | .pktData seq payload prev => Sys2Proof.Machine.execPktData seq payload prev s
  | .pktAck err crc rsv0 rsv1 prev => Sys2Proof.Machine.execPktAck err crc rsv0 rsv1 prev s
  | .pktUnknown rest prev => Sys2Proof.Machine.execPktUnknown rest prev s
  | .pktRsv0407 id rest prev => Sys2Proof.Machine.execPktRsv0407 id rest prev s
  | .pktRsv080F id rest prev => Sys2Proof.Machine.execPktRsv080F id rest prev s
  | .pktRsv101F id rest prev => Sys2Proof.Machine.execPktRsv101F id rest prev s
  | .pktRsv203F id rest prev => Sys2Proof.Machine.execPktRsv203F id rest prev s
  | .pktRsv407F id rest prev => Sys2Proof.Machine.execPktRsv407F id rest prev s
  | .pktRsv80FF id rest prev => Sys2Proof.Machine.execPktRsv80FF id rest prev s

end Sys2Proof.Machine
end

