-- ==== Sys2Proof/Machine/Step.lean ====
section
/-! DEFINITION. One step of the machine: the next request the host issues, decoded and executed as one atomic
transition (R6, R35, R39); with no request the block is idle and its registers are held (R119). There is no program
counter and no fetch (R17, R42). -/

namespace Sys2Proof.Machine

/-- One step. DEDUCED, safe: with nothing issued the state stays as it is (R119; log entry 6). -/
def step (s : State) : Host.Outcome State Fault Refusal :=
  match s.requests with
  | [] => .next s
  | r :: rest =>
    match decode r with
    | .ok i => exec i { s with requests := rest }
    | .error (.illegalCommand code) => .refused (.illegalCommand code)

/-- `s` with the request of an opcode-table word as the one the host issues next (log entry 4). -/
def State.withFetchWord (s : State) (nbits w : Nat) : State :=
  { s with requests := tableRequest nbits w :: s.requests }

end Sys2Proof.Machine
end

