-- ==== Sys2Proof/Safety.lean ====
section
/-! DEFINITION. What counts as a safe run, in the terms claims use: the requests a host may make (R106, R120), runs
(R140), the read and write map of R26 as predicates, the invariants of the ports (R43, R53, R118), what the spec says of
a conforming device (R116), and the transfer that the HOST owns and drives (R103, R104, R112). Nothing here is state
or behaviour of the block. -/

namespace Sys2Proof

open Sys2Proof.Machine

/-- The constraint R7, R47 and R48 put on an instance's code maps: no two of the nine outcome numbers are equal, so
that `ERRCODE` and `OUTCODE` are injective. -/
def Params.wf (p : Params) : Prop :=
  ∀ a b : HostOutcome, outcomeNumber p a = outcomeNumber p b → a = b

/-- `ERRCODE` alone is injective (R47). -/
def ErrCodes.wf (c : ErrCodes) : Prop := ∀ a b : DeviceError, errByte c a = errByte c b → a = b

/-- Step 5 of R90 is reached: the length is 8, the id is the ACK id and the error byte is that of NONE (R95). -/
def reachesStep5 (p : Params) (ack : Bytes) : Bool :=
  ack.length == 8 && ack.getD 0 0 == 0x02#8 && ack.getD 1 0 == p.errCode.none

/-- The reply an instruction validates and the packet it validates it against. -/
def replyOf (i : Instr) : Option (Bytes × Bytes) :=
  match i with
  | .avValidate ack prev => some (ack, prev)
  | _ =>
    match encode i with
    | .reply packet prev => some (packet, prev)
    | .command _ _ => none

/-- The validations R90 gives an outcome: both operands within `MAX_LEN`, and a previous packet that is not empty when
step 5 is reached (R98, R106). -/
def admittedReply (p : Params) (ack prev : Bytes) : Bool :=
  fits p ack && fits p prev && !(reachesStep5 p ack && prev.isEmpty)

/-- The instructions the spec gives a next state; the others are the refusals (b) and (c) of R106. -/
def admitted (p : Params) (i : Instr) : Bool :=
  match i with
  | .crcCompute buf => fits p buf
  | .frData payload _ => fits p payload
  | _ =>
    match replyOf i with
    | some (ack, prev) => admittedReply p ack prev
    | none => true

/-- A run of R140: the instructions one after another, each from the state the one before left (R39). -/
def execAll : List Instr → State → Host.Outcome State Fault Refusal
  | [], s => .next s
  | i :: is, s =>
    match exec i s with
    | .next t => execAll is t
    | .fault r => .fault r
    | .refused r => .refused r

/-- Column 'reads ACC' of R26. -/
def readsAcc : Instr → Bool
  | .crcByte _ => true
  | .crcRead => true
  | _ => false

/-- Column 'writes ACC' of R26. -/
def writesAcc (p : Params) (i : Instr) : Bool :=
  match i with
  | .crcInit => true
  | .crcByte _ => true
  | .crcCompute _ => true
  | _ =>
    match replyOf i with
    | some (ack, _) => reachesStep5 p ack
    | none => false

/-- Column 'reads SEQ' of R26. -/
def readsSeq : Instr → Bool
  | .frData _ resetSequence => !resetSequence
  | _ => false

/-- Column 'writes SEQ' of R26. -/
def writesSeq : Instr → Bool
  | .frData _ _ => true
  | .frSrst => true
  | _ => false

/-- Column 'reads CRC_TABLE' of R26. -/
def readsTable (p : Params) (i : Instr) : Bool :=
  match i with
  | .crcByte _ => true
  | .crcCompute buf => !buf.isEmpty
  | _ =>
    match replyOf i with
    | some (ack, prev) => reachesStep5 p ack && !prev.tail.isEmpty
    | none => false

/-- The commands R36 calls idempotent, and with them the received packets, which are validations. -/
def idempotent : Instr → Bool
  | .crcByte _ => false
  | .frData _ _ => false
  | _ => true

/-- The diagnostic record is that of an ACK that reached step 5 and did not match: the two values R118 names and the
two packets, the computed and received values different. -/
def diagTrue (p : Params) (d : Diag) : Prop :=
  reachesStep5 p d.ack = true ∧ d.prev ≠ [] ∧ d.computed = crc p.crcTable d.prev.tail ∧
    d.received = readWord d.ack 2 ∧ d.computed ≠ d.received

/-- A packet the block may emit: a START packet of 8 bytes or a DATA packet of at least 2 (R43, R44, R45, R88). -/
def emittable (out : Bytes) : Prop :=
  (out.head? = some 0x01#8 ∧ out.length = 8) ∨ (out.head? = some 0x03#8 ∧ 2 ≤ out.length)

/-- What the ports of an instance have carried: as many DIAG records as CRC_MISMATCH outcomes, each record true, and
only packets of the two kinds the block builds. -/
def portsSound (s : State) : Prop :=
  (∀ d ∈ s.diags, diagTrue s.params d) ∧
    s.diags.length = s.results.count (.outcome .crcMismatch) ∧
    ∀ out, Result.bytes out ∈ s.results → emittable out

/-- The ACK R46 and R116 describe for a correctly received packet: error NONE and the checksum of the packet without its
id byte; the reserved bytes are any. A premise about a device, never a rule of the block. -/
def conformingAck (p : Params) (packet : Bytes) (rsv0 rsv1 : Byte) : Bytes :=
  ackPacket p.errCode.none (crc p.crcTable packet.tail) rsv0 rsv1

/-- The causes of R108 in the order of the five steps of R90, each with its outcome. -/
def causes (p : Params) (ack prev : Bytes) : List (Bool × HostOutcome) :=
  [ (ack.length != 8, .sizeTooLarge),
    (ack.getD 0 0 != 0x02#8, .invalidMessageId),
    (decodeErr p.errCode (ack.getD 1 0) == none, .unknownErrorCode),
    (ack.getD 1 0 != p.errCode.none, ((decodeErr p.errCode (ack.getD 1 0)).map outcomeOf).getD .none),
    (crc p.crcTable prev.tail != readWord ack 2, .crcMismatch) ]

/-- The outcome R108 prescribes: that of the first cause that holds, NONE when none does. -/
def firstCause (p : Params) (ack prev : Bytes) : HostOutcome :=
  match (causes p ack prev).find? (fun c => c.1) with
  | some c => c.2
  | none => .none

/-- AV.VALIDATE of `ack` and `prev` returns `o` on every instance with the parameters `p`, whatever its registers. -/
def answers (p : Params) (ack prev : Bytes) (o : HostOutcome) : Prop :=
  ∀ s : State, s.params = p →
    ∃ t, exec (.avValidate ack prev) s = .next t ∧ t.results = s.results ++ [.outcome o]

/-- The classes of R103 and R104. -/
inductive OutcomeClass
  | success
  | framing
  | deviceReported
  | integrity
  | unknownError
  deriving DecidableEq, Repr

/-- Column 'class' of R103: an outcome with two origins has two classes. -/
def outcomeClasses : HostOutcome → List OutcomeClass
  | .none => [.success]
  | .packetOverrun => [.deviceReported]
  | .enterDfuNotRequested => [.deviceReported]
  | .outOfSequence => [.deviceReported]
  | .invalidMessageId => [.framing, .deviceReported]
  | .sizeTooLarge => [.framing, .deviceReported]
  | .internalError => [.deviceReported]
  | .crcMismatch => [.integrity]
  | .unknownErrorCode => [.unknownError]

/-- The host's transfer of R112: state of the caller, not of the block (log entry 15). `waitAck k`: the reply to the packet before
chunk `k` is awaited. -/
inductive Transfer
  | sendStart
  | waitAck (k : Nat)
  | sendData (k : Nat)
  | done
  | failed (o : HostOutcome)
  deriving DecidableEq, Repr

/-- A packet was built and sent (R112). -/
def Transfer.sent : Transfer → Transfer
  | .sendStart => .waitAck 0
  | .sendData k => .waitAck (k + 1)
  | x => x

/-- An outcome arrived in WAIT_ACK, with `chunks` chunks in the image (R112). -/
def Transfer.heard (chunks : Nat) (o : HostOutcome) : Transfer → Transfer
  | .waitAck k =>
    if o = .none then (if k < chunks then .sendData k else .done) else .failed o
  | x => x

/-- One exchange of R112: build a packet, let the device answer it, validate the answer against it. -/
def exchange (device : Bytes → Bytes) (build : Instr) (s : State) : Option (HostOutcome × State) :=
  match exec build s with
  | .next t =>
    match t.results.getLast? with
    | some (.bytes packet) =>
      match exec (.avValidate (device packet) packet) t with
      | .next u =>
        match u.results.getLast? with
        | some (.outcome o) => some (o, u)
        | _ => none
      | _ => none
    | _ => none
  | _ => none

/-- One round of the host's machine (R112).
DESIGN CHOICE, safe (log entry 16): every chunk is built without the reset flag, the first one too, and no FR.SRST is
issued before START. R87 and spec/91 N11 leave to the host whether the first DATA packet of a transfer has the flag. -/
def driveOnce (device : Bytes → Bytes) (appSize : Nat) (appCrc : Word) (chunks : List Bytes) :
    Transfer × State → Option (Transfer × State)
  | (.sendStart, s) =>
    (exchange device (.frStart appSize appCrc) s).map
      (fun r => (Transfer.heard chunks.length r.1 Transfer.sendStart.sent, r.2))
  | (.sendData k, s) =>
    (exchange device (.frData (chunks.getD k []) false) s).map
      (fun r => (Transfer.heard chunks.length r.1 (Transfer.sendData k).sent, r.2))
  | x => some x

/-- `n` rounds of the host's machine. -/
def drive (device : Bytes → Bytes) (appSize : Nat) (appCrc : Word) (chunks : List Bytes) :
    Nat → Transfer × State → Option (Transfer × State)
  | 0, x => some x
  | n + 1, x =>
    match driveOnce device appSize appCrc chunks x with
    | some y => drive device appSize appCrc chunks n y
    | none => none

end Sys2Proof
end

