-- ==== Sys2Proof/Certificates/Slice0/Obligations.lean ====
section
/-! DEFINITION. The statements about the machine, each formalising what spec/ says; OBLIGATIONS.json lists them.
'Every state' is every value of ACC, of SEQ, of the instance's parameters (the table, the code maps, MAX_LEN) and of what
the ports have carried; no statement takes a value of a parameter unless it says so. -/

open Sys2Proof Sys2Proof.Machine

/-! ### Reset and the step -/

/-- R122, R24: what reset leaves, for every instance. The two values are the spec's own choice (spec/92 D7, D8, D28). -/
def Obligations.ResetLeavesRegistersAndEmptyPorts : Prop :=
  (∀ p : Params,
    (State.resetWith p).acc = 0xFFFFFFFF#32 ∧ (State.resetWith p).seq = 0x00#8 ∧ (State.resetWith p).params = p ∧
      (State.resetWith p).requests = [] ∧ (State.resetWith p).results = [] ∧ (State.resetWith p).diags = []) ∧
  State.reset.acc = 0xFFFFFFFF#32 ∧ State.reset.seq = 0x00#8

/-- R35, R39: the request issued next is decoded and its instruction executed on the state that is left with the
requests after it. That requests stand in a list of the state is the model's own (log entry 6). -/
def Obligations.StepRunsTheDecodedInstruction : Prop :=
  ∀ (s : State) (r : Request) (rest : List Request) (i : Instr),
    s.requests = r :: rest → decode r = .ok i → step s = exec i { s with requests := rest }

/-- R119: with no request issued the block is idle and everything is held. The idle step is the model's own
(log entry 6). -/
def Obligations.IdleStepHoldsTheState : Prop :=
  ∀ s : State, s.requests = [] → step s = .next s

/-- R56, R106 (a): a command code that is none of the eight is refused, whatever stands on the operand ports. -/
def Obligations.ReservedCommandCodesAreRefused : Prop :=
  ∀ (s : State) (code : Byte) (ports : OperandPorts) (rest : List Request),
    s.requests = .command code ports :: rest →
    code ∉ [0x01#8, 0x02#8, 0x03#8, 0x04#8, 0x10#8, 0x11#8, 0x12#8, 0x20#8] →
    step s = .refused (.illegalCommand code)

/-- R39, R140: stepping through queued requests is executing their instructions one after another, in the order they were
issued, each from the state the one before left, with the same stop. That requests stand in a list of the state is the
model's own (log entry 6). -/
def Obligations.SteppingThroughRequestsIsARun : Prop :=
  ∀ (is : List Instr) (rest : List Request) (s : State),
    (∀ i ∈ is, i.wf = true) →
    Host.Core.run core is.length { s with requests := is.map encode ++ rest } =
      execAll is { s with requests := rest }

/-! ### Encoding -/

/-- R44 to R46, R49, R50, R60: decoding what encodes a well-formed instruction gives the instruction, every operand at
every value. -/
def Obligations.DecodeOfEncodeIsTheInstruction : Prop :=
  ∀ i : Instr, i.wf = true → decode (encode i) = .ok i

/-- R49, R50: the eight codes select the eight commands, each with the operand ports of its row. -/
def Obligations.CommandCodesSelectTheCommands : Prop :=
  ∀ o : OperandPorts,
    decode (.command 0x01 o) = .ok .crcInit ∧
    decode (.command 0x02 o) = .ok (.crcByte o.b) ∧
    decode (.command 0x03 o) = .ok .crcRead ∧
    decode (.command 0x04 o) = .ok (.crcCompute o.buf) ∧
    decode (.command 0x10 o) = .ok (.frStart o.appSize o.appCrc) ∧
    decode (.command 0x11 o) = .ok (.frData o.payload o.resetSequence) ∧
    decode (.command 0x12 o) = .ok .frSrst ∧
    decode (.command 0x20 o) = .ok (.avValidate o.ack o.prev)

/-- The wire images of spec/95 section 2.4, written out byte by byte, decode to the packets they stand for; and one id of
each row that fixes byte 0 alone. -/
def Obligations.WireImagesDecodeToTheirPackets : Prop :=
  decode (.reply [0x01, 0x02, 0x03, 0x04, 0xDE, 0xAD, 0xBE, 0xEF] [9]) = .ok (.pktStart 0x020304 0xDEADBEEF [9]) ∧
  decode (.reply [0x02, 0x00, 0x54, 0xF8, 0x4A, 0x0C, 0x00, 0x00] [9]) = .ok (.pktAck 0x00 0x54F84A0C 0x00 0x00 [9]) ∧
  decode (.reply [0x02, 0x03, 0xBA, 0x28, 0xAE, 0x5C, 0xA5, 0x5A] [9]) = .ok (.pktAck 0x03 0xBA28AE5C 0xA5 0x5A [9]) ∧
  decode (.reply [0x03, 0xFF, 0x11] [9]) = .ok (.pktData 0xFF [0x11] [9]) ∧
  decode (.reply [0x03, 0x7F] [9]) = .ok (.pktData 0x7F [] [9]) ∧
  decode (.reply [0x00, 0x0A] [9]) = .ok (.pktUnknown [0x0A] [9]) ∧
  decode (.reply [0x07, 0x0A] [9]) = .ok (.pktRsv0407 0x07 [0x0A] [9]) ∧
  decode (.reply [0x08, 0x0A] [9]) = .ok (.pktRsv080F 0x08 [0x0A] [9]) ∧
  decode (.reply [0x1F, 0x0A] [9]) = .ok (.pktRsv101F 0x1F [0x0A] [9]) ∧
  decode (.reply [0x20, 0x0A] [9]) = .ok (.pktRsv203F 0x20 [0x0A] [9]) ∧
  decode (.reply [0x7F, 0x0A] [9]) = .ok (.pktRsv407F 0x7F [0x0A] [9]) ∧
  decode (.reply [0x80, 0x0A] [9]) = .ok (.pktRsv80FF 0x80 [0x0A] [9])

/-- R60, R111: telling a received byte sequence apart by the wire rows and then executing its row is AV.VALIDATE of the
sequence as it stands, for every sequence, every previous packet and every state: no bit of a packet is lost in the
wire decoder. That the rows are executed so is the model's reading (log entry 3). -/
def Obligations.PacketRowsAgreeWithTheValidator : Prop :=
  ∀ (p prev : Bytes) (s : State), exec (decodeReply p prev) s = exec (.avValidate p prev) s

/-! ### Checksum Engine -/

/-- R62: the step on 32-bit values is the source's formula on unsigned integers, with its shifts, its index mask and its
final mask. -/
def Obligations.CrcStepIsTheIntegerFormula : Prop :=
  ∀ (table : Vector Word 256) (acc : Word) (b : Byte),
    (crcStep table acc b).toNat =
      ((acc.toNat <<< 8) ^^^ (table.toList.getD (((acc.toNat >>> 24) ^^^ b.toNat) &&& 0xFF) 0).toNat) &&& 0xFFFFFFFF

/-- R63: the checksum is the left fold of the step over the bytes in order, from 0xFFFFFFFF. -/
def Obligations.ChecksumIsTheFoldOfTheStep : Prop :=
  ∀ (table : Vector Word 256) (buf : Bytes),
    crc table buf = crcFrom table 0xFFFFFFFF#32 buf ∧
    ∀ acc : Word, crcFrom table acc [] = acc ∧
      ∀ b rest, crcFrom table acc (b :: rest) = crcFrom table (crcStep table acc b) rest

/-- R64: code 0x01 is CRC.INIT (a command of its own by the spec's choice, D5), and what it does. -/
def Obligations.CrcInitSetsTheAccumulator : Prop :=
  (∀ o : OperandPorts, decode (.command 0x01 o) = .ok .crcInit) ∧
  ∀ s : State, exec .crcInit s = .next { s with acc := 0xFFFFFFFF#32, results := s.results ++ [.nothing] }

/-- R65, with the formula of R62 written out: code 0x02 is CRC.BYTE (a command of its own by the spec's choice, D5); it
steps from every accumulator, and from both operands zero it gives entry 0. The rule's worked example needs the default
table and stands in `Obligations.DefaultTableCheckValues`. -/
def Obligations.CrcByteAdvancesTheAccumulator : Prop :=
  (∀ o : OperandPorts, decode (.command 0x02 o) = .ok (.crcByte o.b)) ∧
  (∀ (s : State) (b : Byte),
    exec (.crcByte b) s =
      .next { s with
        acc := (s.acc <<< 8) ^^^ s.params.crcTable[((s.acc >>> 24).setWidth 8 ^^^ b).toNat]
        results := s.results ++ [.nothing] }) ∧
  ∀ s : State, s.acc = 0 →
    exec (.crcByte 0) s = .next { s with acc := s.params.crcTable[0], results := s.results ++ [.nothing] }

/-- R66: code 0x03 is CRC.READ (a command of its own by the spec's choice, D5), which returns the accumulator as it stands and changes neither register. -/
def Obligations.CrcReadReturnsTheAccumulator : Prop :=
  (∀ o : OperandPorts, decode (.command 0x03 o) = .ok .crcRead) ∧
  ∀ s : State, exec .crcRead s = .next { s with results := s.results ++ [.word s.acc] }

/-- R67: code 0x04 is CRC.COMPUTE, which returns `crc(buf)` and leaves it in ACC, whatever the registers were; a buffer
over MAX_LEN is refused; and result and final state are those of CRC.INIT, one CRC.BYTE for each byte in order,
CRC.READ. That ACC is left holding the result is the spec's own choice in R67 (D6, log entry 13). -/
def Obligations.ComputeIsTheStreamedChecksum : Prop :=
  (∀ o : OperandPorts, decode (.command 0x04 o) = .ok (.crcCompute o.buf)) ∧
  ∀ (s : State) (buf : Bytes),
    (fits s.params buf = false → exec (.crcCompute buf) s = .refused .operandTooLong) ∧
    (fits s.params buf = true →
      exec (.crcCompute buf) s =
        .next { s with
          acc := crcFrom s.params.crcTable 0xFFFFFFFF#32 buf
          results := s.results ++ [.word (crcFrom s.params.crcTable 0xFFFFFFFF#32 buf)] }) ∧
    execAll (.crcInit :: (buf.map Instr.crcByte ++ [.crcRead])) s =
      .next { s with
        acc := crcFrom s.params.crcTable 0xFFFFFFFF#32 buf
        results := s.results ++ List.replicate (buf.length + 1) .nothing ++
          [.word (crcFrom s.params.crcTable 0xFFFFFFFF#32 buf)] }

/-- R69: the empty buffer, for every table, every MAX_LEN and every state. -/
def Obligations.EmptyBufferHasChecksumAllOnes : Prop :=
  ∀ s : State,
    exec (.crcCompute []) s =
      .next { s with acc := 0xFFFFFFFF#32, results := s.results ++ [.word 0xFFFFFFFF#32] }

/-- R71: after CRC.COMPUTE of `x`, one CRC.BYTE for each byte of `y` and CRC.READ return the checksum of `x ++ y`. -/
def Obligations.ChecksumContinuesAcrossCommands : Prop :=
  ∀ (s : State) (x y : Bytes), fits s.params x = true →
    ∃ t, execAll (.crcCompute x :: (y.map Instr.crcByte ++ [.crcRead])) s = .next t ∧
      t.acc = crc s.params.crcTable (x ++ y) ∧
      t.results.getLast? = some (.word (crc s.params.crcTable (x ++ y))) ∧
      t.seq = s.seq ∧ t.params = s.params ∧ t.diags = s.diags

/-- R72: the checksum of one byte, for every table. -/
def Obligations.ChecksumOfOneByte : Prop :=
  ∀ (table : Vector Word 256) (b : Byte), crc table [b] = 0xFFFFFF00#32 ^^^ table[(0xFF#8 ^^^ b).toNat]

/-- R75: the default table is the one its generating rule gives, entry by entry. The rule and the values are the spec's from
general knowledge (log entry 1). -/
def Obligations.DefaultTableFollowsItsGeneratingRule : Prop :=
  ∀ k : Byte,
    tMpeg2[k.toNat] =
      Nat.iterate (fun c : Word => if c.msb then (c <<< 1) ^^^ 0x04C11DB7#32 else c <<< 1) 8 (k.setWidth 32 <<< 24)

/-- The worked examples of R65, R67 and R73 and of spec/95 section 2.1: with T_MPEG2 one step, the order of bytes, and the
check value, which is neither the complemented nor the common reflected one. These values rest on the default table
(log entry 1). -/
def Obligations.DefaultTableCheckValues : Prop :=
  crcStep tMpeg2 0xFFFFFFFF#32 0x41 = 0x7E4FD274#32 ∧ crcStep tMpeg2 0x12345678#32 0x00 = 0x71C5981E#32 ∧
  crc tMpeg2 [0x41, 0x42] = 0xAEEC82F4#32 ∧ crc tMpeg2 [0x42, 0x41] = 0xD144FBFE#32 ∧
  crc tMpeg2 [0x31, 0x32, 0x33, 0x34, 0x35, 0x36, 0x37, 0x38, 0x39] = 0x0376E6E7#32 ∧
  crc tMpeg2 [0x31, 0x32, 0x33, 0x34, 0x35, 0x36, 0x37, 0x38, 0x39] ≠ 0xFC891918#32 ∧
  crc tMpeg2 [0x31, 0x32, 0x33, 0x34, 0x35, 0x36, 0x37, 0x38, 0x39] ≠ 0xCBF43926#32 ∧
  crc tMpeg2 [0x02, 0x03, 0x04, 0xDE, 0xAD, 0xBE, 0xEF] = 0x54F84A0C#32 ∧
  crc tMpeg2 [0xFF, 0xFF, 0xFF, 0xFF] = 0x00000000#32

/-! ### Packet Codec -/

/-- R77, R44: code 0x10 is FR.START, which builds the 8 bytes of the START packet for every size and every checksum, and touches no register. -/
def Obligations.StartPacketHasEveryByteInPlace : Prop :=
  (∀ o : OperandPorts, decode (.command 0x10 o) = .ok (.frStart o.appSize o.appCrc)) ∧
  ∀ (s : State) (n : Nat) (c : Word),
    exec (.frStart n c) s =
      .next { s with
        results := s.results ++
          [.bytes
            [0x01#8, BitVec.ofNat 8 (n % 2 ^ 24 / 65536), BitVec.ofNat 8 (n % 2 ^ 24 / 256 % 256),
              BitVec.ofNat 8 (n % 2 ^ 24 % 256), c.extractLsb' 24 8, c.extractLsb' 16 8, c.extractLsb' 8 8,
              c.extractLsb' 0 8]] }

/-- R78: the size field, bytes 1 to 3, holds the size modulo 2^24, with no error; and nothing else is dropped: two FR.START commands act alike exactly
when the sizes agree modulo 2^24 and the checksums are equal. -/
def Obligations.SizeIsTruncatedAndNothingElse : Prop :=
  ∀ (s : State) (n m : Nat) (c d : Word),
    (∃ t out, exec (.frStart n c) s = .next t ∧ t.results = s.results ++ [.bytes out] ∧
      memRead out 1 3 = n % 2 ^ 24) ∧
    (exec (.frStart n c) s = exec (.frStart m d) s ↔ n % 2 ^ 24 = m % 2 ^ 24 ∧ c = d)

/-- R7, D12: SIZE_W is at least 24, so a port of that width that keeps the low SIZE_W bits of the size changes no result: the
width cannot be seen. The model's port takes every natural number (log entry 8). -/
def Obligations.SizePortWidthCannotBeSeen : Prop :=
  ∀ (s : State) (w n : Nat) (c : Word), 24 ≤ w → exec (.frStart (n % 2 ^ w) c) s = exec (.frStart n c) s

/-- R44, R60: the packet FR.START returns is the PKT.START row with the size modulo 2^24 and the checksum in its fields. -/
def Obligations.BuiltStartPacketDecodesToItsFields : Prop :=
  ∀ (s : State) (n : Nat) (c : Word) (prev : Bytes),
    ∃ t out, exec (.frStart n c) s = .next t ∧ t.results = s.results ++ [.bytes out] ∧ out.length = 8 ∧
      decodePacket out prev = some (.pktStart (BitVec.ofNat 24 n) c prev)

/-- R80, R45: code 0x11 is FR.DATA; with either flag, from every counter value, with every payload within MAX_LEN; beyond it, it is refused. -/
def Obligations.DataPacketCarriesTheCounter : Prop :=
  (∀ o : OperandPorts, decode (.command 0x11 o) = .ok (.frData o.payload o.resetSequence)) ∧
  ∀ (s : State) (payload : Bytes) (reset : Bool),
    (fits s.params payload = false → exec (.frData payload reset) s = .refused .operandTooLong) ∧
    (fits s.params payload = true →
      (reset = true →
        exec (.frData payload reset) s =
          .next { s with seq := 0x01#8, results := s.results ++ [.bytes (0x03#8 :: 0x00#8 :: payload)] }) ∧
      (reset = false →
        exec (.frData payload reset) s =
          .next { s with
            seq := BitVec.ofNat 8 ((s.seq.toNat + 1) % 256)
            results := s.results ++ [.bytes (0x03#8 :: s.seq :: payload)] }))

/-- R81: with the reset flag the prior counter is not read: two states that differ in SEQ alone give the same next state, its
counter 1 and its packet's sequence byte 0. -/
def Obligations.ResetPacketIgnoresTheCounter : Prop :=
  ∀ (s : State) (payload : Bytes) (n : Byte), fits s.params payload = true →
    exec (.frData payload true) { s with seq := n } = exec (.frData payload true) s ∧
    exec (.frData payload true) s =
      .next { s with seq := 0x01#8, results := s.results ++ [.bytes (0x03#8 :: 0x00#8 :: payload)] }

/-- R82: FR.DATA after FR.DATA without reset: packet `k` of the run carries the counter plus `k` modulo 256, its payload
verbatim; the counter advances once a packet; after 256 packets it is what it was. Nothing else changes. -/
def Obligations.SequenceBytesCountPackets : Prop :=
  ∀ (s : State) (payloads : List Bytes), (∀ d ∈ payloads, fits s.params d = true) →
    execAll (payloads.map (fun d => .frData d false)) s =
      .next { s with
        seq := s.seq + BitVec.ofNat 8 payloads.length
        results := s.results ++
          payloads.mapIdx (fun k d => .bytes (0x03#8 :: BitVec.ofNat 8 ((s.seq.toNat + k) % 256) :: d)) } ∧
    (payloads.length = 256 →
      ∃ t, execAll (payloads.map (fun d => .frData d false)) s = .next t ∧ t.seq = s.seq)

/-- R87: a session opened by FR.SRST, or by a first packet with the reset flag, from any state: the `k`-th DATA packet
carries `k` modulo 256. That FR.SRST starts from 0 is the spec's own choice (D8). -/
def Obligations.FreshSessionNumbersFromZero : Prop :=
  ∀ (s : State) (first : Bytes) (others : List Bytes), (∀ d ∈ first :: others, fits s.params d = true) →
    (∃ t, execAll (.frSrst :: (first :: others).map (fun d => .frData d false)) s = .next t ∧
      t.results = s.results ++ .nothing ::
        (first :: others).mapIdx (fun k d => .bytes (0x03#8 :: BitVec.ofNat 8 k :: d))) ∧
    (∃ t, execAll (.frData first true :: others.map (fun d => .frData d false)) s = .next t ∧
      t.results = s.results ++ (first :: others).mapIdx (fun k d => .bytes (0x03#8 :: BitVec.ofNat 8 k :: d)))

/-- R85: code 0x12 is FR.SRST (a command by the spec's choice, D8, D9); it clears SEQ, and FR.DATA without the reset flag after it
builds the packet that FR.DATA with the flag builds from any state. -/
def Obligations.SessionResetClearsTheCounter : Prop :=
  (∀ o : OperandPorts, decode (.command 0x12 o) = .ok .frSrst) ∧
  (∀ s : State, exec .frSrst s = .next { s with seq := 0x00#8, results := s.results ++ [.nothing] }) ∧
  ∀ (s : State) (payload : Bytes), fits s.params payload = true →
    execAll [.frSrst, .frData payload false] s =
      .next { s with
        seq := 0x01#8
        results := s.results ++ [.nothing, .bytes (0x03#8 :: 0x00#8 :: payload)] } ∧
    exec (.frData payload true) s =
      .next { s with seq := 0x01#8, results := s.results ++ [.bytes (0x03#8 :: 0x00#8 :: payload)] }

/-! ### Ack Validator -/

/-- R47: on an injective code map the decoder finds the error of every code, and finds none exactly for a byte that is the code
of no error. -/
def Obligations.ErrorBytesDecodeByTheCodeMap : Prop :=
  ∀ c : ErrCodes, c.wf →
    (∀ e : DeviceError, decodeErr c (errByte c e) = some e) ∧
    ∀ b : Byte, decodeErr c b = none ↔ ∀ e : DeviceError, errByte c e ≠ b

/-- R48: OUTCODE is ERRCODE on the shared names, and an instance whose OUTCODE is injective has an injective ERRCODE; the default
instance's maps are (log entry 2). -/
def Obligations.OutcomeNumbersExtendErrorNumbers : Prop :=
  (∀ (p : Params) (e : DeviceError), outcomeNumber p (outcomeOf e) = errByte p.errCode e) ∧
  (∀ p : Params, p.wf → p.errCode.wf) ∧
  defaultParams.wf

/-- R91: every reply whose length is not 8, whatever it holds and whatever was sent. -/
def Obligations.WrongLengthIsSizeTooLarge : Prop :=
  ∀ (s : State) (ack prev : Bytes), fits s.params ack = true → fits s.params prev = true → ack.length ≠ 8 →
    exec (.avValidate ack prev) s = .next { s with results := s.results ++ [.outcome .sizeTooLarge] }

/-- R92: every 8-byte reply whose first byte is not 0x02. -/
def Obligations.WrongIdIsInvalidMessageId : Prop :=
  ∀ (s : State) (id : Byte) (rest prev : Bytes),
    fits s.params (id :: rest) = true → fits s.params prev = true → rest.length = 7 → id ≠ 0x02#8 →
    exec (.avValidate (id :: rest) prev) s = .next { s with results := s.results ++ [.outcome .invalidMessageId] }

/-- R93: every 8-byte ACK whose error byte is the code of no device error. -/
def Obligations.UnknownErrorByteIsAnOutcome : Prop :=
  ∀ (s : State) (e : Byte) (rest prev : Bytes),
    fits s.params (0x02#8 :: e :: rest) = true → fits s.params prev = true → rest.length = 6 →
    (∀ n : DeviceError, errByte s.params.errCode n ≠ e) →
    exec (.avValidate (0x02#8 :: e :: rest) prev) s =
      .next { s with results := s.results ++ [.outcome .unknownErrorCode] }

/-- R94: an ACK that reports a device error other than NONE gives the outcome of the same name, whatever stands in its checksum
field and whatever was sent, an empty previous packet too; nothing else changes. -/
def Obligations.DeviceErrorIsSurfacedVerbatim : Prop :=
  ∀ (s : State) (n : DeviceError) (rest prev : Bytes),
    s.params.errCode.wf → n ≠ .none → rest.length = 6 →
    fits s.params (0x02#8 :: errByte s.params.errCode n :: rest) = true → fits s.params prev = true →
    exec (.avValidate (0x02#8 :: errByte s.params.errCode n :: rest) prev) s =
      .next { s with results := s.results ++ [.outcome (outcomeOf n)] }

/-- R95: the comparison of step 5, over the big-endian value of bytes 2 to 5 as an integer, any reserved bytes and any id byte of
the previous packet; with it the state effect of R96 and the record of R99; and no reply that does not reach the step has one of its
two outcomes or writes ACC. -/
def Obligations.ChecksumDecidesTheLastStep : Prop :=
  (∀ (s t : State) (ack prev : Bytes), exec (.avValidate ack prev) s = .next t → reachesStep5 s.params ack = false →
    t.acc = s.acc ∧ t.results.getLast? ≠ some (.outcome .none) ∧ t.results.getLast? ≠ some (.outcome .crcMismatch)) ∧
  ∀ (s : State) (c0 c1 c2 c3 r0 r1 id : Byte) (tail : Bytes),
    fits s.params [0x02#8, s.params.errCode.none, c0, c1, c2, c3, r0, r1] = true →
    fits s.params (id :: tail) = true →
    ((crc s.params.crcTable tail).toNat = c0.toNat * 2 ^ 24 + c1.toNat * 2 ^ 16 + c2.toNat * 2 ^ 8 + c3.toNat →
      exec (.avValidate [0x02#8, s.params.errCode.none, c0, c1, c2, c3, r0, r1] (id :: tail)) s =
        .next { s with acc := crc s.params.crcTable tail, results := s.results ++ [.outcome .none] }) ∧
    ((crc s.params.crcTable tail).toNat ≠ c0.toNat * 2 ^ 24 + c1.toNat * 2 ^ 16 + c2.toNat * 2 ^ 8 + c3.toNat →
      exec (.avValidate [0x02#8, s.params.errCode.none, c0, c1, c2, c3, r0, r1] (id :: tail)) s =
        .next { s with
          acc := crc s.params.crcTable tail
          results := s.results ++ [.outcome .crcMismatch]
          diags := s.diags ++
            [⟨crc s.params.crcTable tail,
              BitVec.ofNat 32 (c0.toNat * 2 ^ 24 + c1.toNat * 2 ^ 16 + c2.toNat * 2 ^ 8 + c3.toNat),
              [0x02#8, s.params.errCode.none, c0, c1, c2, c3, r0, r1], id :: tail⟩] })

/-- R95 (S7, S8), R84: a packet just built by FR.START or FR.DATA, answered by the ACK a conforming device sends, validates to
NONE; answered with any other checksum value it gives CRC_MISMATCH. Any reserved bytes. -/
def Obligations.ConformingAckOfABuiltPacketIsAccepted : Prop :=
  ∀ (s t : State) (i : Instr) (packet : Bytes) (v : Word) (r0 r1 : Byte),
    exec i s = .next t → t.results = s.results ++ [.bytes packet] →
    fits s.params packet = true → fits s.params (List.replicate 8 0x00#8) = true →
    exec (.avValidate (conformingAck s.params packet r0 r1) packet) t =
      .next { t with acc := crc s.params.crcTable packet.tail, results := t.results ++ [.outcome .none] } ∧
    (v ≠ crc s.params.crcTable packet.tail →
      ∃ u, exec (.avValidate (ackPacket s.params.errCode.none v r0 r1) packet) t = .next u ∧
        u.results = t.results ++ [.outcome .crcMismatch] ∧ u.acc = crc s.params.crcTable packet.tail ∧ u.seq = t.seq)

/-- R97: the reserved bytes of the ACK and the id byte of the previous packet are not inspected: changing them changes neither the
outcome nor a register. -/
def Obligations.ReservedBytesAndPreviousIdAreIgnored : Prop :=
  ∀ (s t : State) (e c0 c1 c2 c3 r0 r1 q0 q1 id id' : Byte) (tail : Bytes),
    exec (.avValidate [0x02#8, e, c0, c1, c2, c3, r0, r1] (id :: tail)) s = .next t →
    ∃ u, exec (.avValidate [0x02#8, e, c0, c1, c2, c3, q0, q1] (id' :: tail)) s = .next u ∧
      u.results = t.results ∧ u.acc = t.acc ∧ u.seq = t.seq ∧ u.diags.length = t.diags.length

/-- R98 (the spec's own decision D14): step 5 reached with an empty previous packet is refused, and the steps before it are not
hindered by one. -/
def Obligations.EmptyPreviousIsRefusedOnlyAtTheLastStep : Prop :=
  ∀ (s : State) (ack : Bytes), fits s.params ack = true →
    (reachesStep5 s.params ack = true → exec (.avValidate ack []) s = .refused .emptyPrevious) ∧
    (reachesStep5 s.params ack = false →
      ∃ t o, exec (.avValidate ack []) s = .next t ∧ t = { s with results := s.results ++ [.outcome o] })

/-- R108, R101: for every reply and every previous packet within MAX_LEN (an empty one only if step 5 is not reached), on every instance,
the outcome is that of the first step whose condition holds, on every state: it depends on no register. -/
def Obligations.OutcomeIsThatOfTheFirstCause : Prop :=
  ∀ (p : Params) (ack prev : Bytes),
    fits p ack = true → fits p prev = true → (reachesStep5 p ack = true → prev ≠ []) →
    answers p ack prev (firstCause p ack prev)

/-- R100: on every instance with injective codes that admits 8-byte replies and non-empty packets, each of the nine outcomes is
returned for some operands; the two ambiguous ones also for an 8-byte ACK; and the others come only from their one step. -/
def Obligations.EveryOutcomeIsReachableByItsRoads : Prop :=
  ∀ p : Params, p.errCode.wf → fits p (List.replicate 8 0x00#8) = true →
    (∀ o : HostOutcome, ∃ ack prev, ack.length ≤ 8 ∧ prev ≠ [] ∧ answers p ack prev o) ∧
    (∀ o ∈ [HostOutcome.sizeTooLarge, HostOutcome.invalidMessageId],
      ∃ rest prev, rest.length = 7 ∧ answers p (0x02#8 :: rest) prev o) ∧
    (∃ rest prev, rest.length = 7 ∧ answers p (0x01#8 :: rest) prev .invalidMessageId) ∧
    (∃ ack prev, ack.length = 7 ∧ answers p ack prev .sizeTooLarge) ∧
    (∀ ack prev o, answers p ack prev o →
      (o = .unknownErrorCode → ack.length = 8 ∧ ack.getD 0 0 = 0x02#8 ∧ decodeErr p.errCode (ack.getD 1 0) = none) ∧
      (o = .crcMismatch ∨ o = .none → reachesStep5 p ack = true) ∧
      (∀ n : DeviceError, n ∈ [DeviceError.packetOverrun, .enterDfuNotRequested, .outOfSequence, .internalError] →
        o = outcomeOf n → ack.length = 8 ∧ ack.getD 0 0 = 0x02#8 ∧ ack.getD 1 0 = errByte p.errCode n))

/-- R103, R104, R136: the class of the outcome AV.VALIDATE returns, on an instance with injective codes: a host that looks at the
reply's length and first byte tells a framing error from a device-reported one. -/
def Obligations.OutcomeClassFollowsTheReply : Prop :=
  ∀ (p : Params) (ack prev : Bytes) (o : HostOutcome), p.errCode.wf → answers p ack prev o →
    (if ack.length ≠ 8 ∨ ack.getD 0 0 ≠ 0x02#8 then OutcomeClass.framing
      else if ack.getD 1 0 = p.errCode.none then (if o = .none then .success else .integrity)
      else if o = .unknownErrorCode then .unknownError
      else .deviceReported) ∈ outcomeClasses o

/-! ### Received packets -/

/-- R53, R91, R92 on the packet rows that are no ACK (PKT.START, PKT.DATA, PKT.UNKNOWN and the six PKT.RSV rows): received as a
reply, each is executed and never accepted; at 8 bytes INVALID_MESSAGE_ID, at any other length SIZE_TOO_LARGE. No register
changes. That a packet row is executed as a received reply is the model's reading (log entry 3). -/
def Obligations.PacketsThatAreNoAckAreNotAccepted : Prop :=
  ∀ (s : State) (prev : Bytes), fits s.params prev = true →
    (∀ size crc, fits s.params (List.replicate 8 0x00#8) = true →
      exec (.pktStart size crc prev) s = .next { s with results := s.results ++ [.outcome .invalidMessageId] }) ∧
    (∀ seq payload, fits s.params (0x03#8 :: seq :: payload) = true →
      exec (.pktData seq payload prev) s =
        .next { s with
          results := s.results ++ [.outcome (if payload.length = 6 then .invalidMessageId else .sizeTooLarge)] }) ∧
    (∀ rest, fits s.params (0x00#8 :: rest) = true →
      exec (.pktUnknown rest prev) s =
        .next { s with
          results := s.results ++ [.outcome (if rest.length = 7 then .invalidMessageId else .sizeTooLarge)] }) ∧
    (∀ (i : Instr) (id : Byte) (rest : Bytes),
      i ∈ [.pktRsv0407 id rest prev, .pktRsv080F id rest prev, .pktRsv101F id rest prev, .pktRsv203F id rest prev,
        .pktRsv407F id rest prev, .pktRsv80FF id rest prev] →
      i.wf = true → fits s.params (id :: rest) = true →
      exec i s =
        .next { s with
          results := s.results ++ [.outcome (if rest.length = 7 then .invalidMessageId else .sizeTooLarge)] })

/-- R46, R90 on the row PKT.ACK, by its fields: an unknown error byte, a device error, and the comparison of the checksum field.
That the row is executed as a received reply is the model's reading (log entry 3). -/
def Obligations.AckPacketIsDecidedByItsFields : Prop :=
  ∀ (s : State) (err : Byte) (field : Word) (r0 r1 id : Byte) (tail : Bytes),
    s.params.errCode.wf → fits s.params (List.replicate 8 0x00#8) = true → fits s.params (id :: tail) = true →
    (∀ n : DeviceError, n ≠ .none → err = errByte s.params.errCode n →
      exec (.pktAck err field r0 r1 (id :: tail)) s =
        .next { s with results := s.results ++ [.outcome (outcomeOf n)] }) ∧
    ((∀ n : DeviceError, err ≠ errByte s.params.errCode n) →
      exec (.pktAck err field r0 r1 (id :: tail)) s =
        .next { s with results := s.results ++ [.outcome .unknownErrorCode] }) ∧
    (err = s.params.errCode.none → field = crc s.params.crcTable tail →
      exec (.pktAck err field r0 r1 (id :: tail)) s =
        .next { s with acc := field, results := s.results ++ [.outcome .none] }) ∧
    (err = s.params.errCode.none → field ≠ crc s.params.crcTable tail →
      exec (.pktAck err field r0 r1 (id :: tail)) s =
        .next { s with
          acc := crc s.params.crcTable tail
          results := s.results ++ [.outcome .crcMismatch]
          diags := s.diags ++
            [⟨crc s.params.crcTable tail, field, ackPacket err field r0 r1, id :: tail⟩] })

/-! ### Whole-machine rules -/

/-- R106: the machine answers a next state exactly for the admitted requests; every other is refused by one of the two names the
list gives for operands. -/
def Obligations.OnlyTheListedRequestsAreRefused : Prop :=
  ∀ (i : Instr) (s : State),
    ((∃ t, exec i s = .next t) ↔ admitted s.params i = true) ∧
    (admitted s.params i = false → exec i s = .refused .operandTooLong ∨ exec i s = .refused .emptyPrevious)

/-- R26, R50, R99, R125: the frame of every instruction. Parameters and requests stay; exactly one value is returned; ACC and SEQ
change only where R26 marks them written; at most one DIAG record is emitted, and only with CRC_MISMATCH. -/
def Obligations.FrameOfEveryInstruction : Prop :=
  ∀ (i : Instr) (s t : State), exec i s = .next t →
    t.params = s.params ∧ t.requests = s.requests ∧
    (writesAcc s.params i = false → t.acc = s.acc) ∧
    (writesSeq i = false → t.seq = s.seq) ∧
    ∃ r, t.results = s.results ++ [r] ∧
      ((r ≠ .outcome .crcMismatch ∧ t.diags = s.diags) ∨
        (r = .outcome .crcMismatch ∧ ∃ d, t.diags = s.diags ++ [d] ∧ diagTrue s.params d))

/-- R26, R96: a run without CRC.BYTE and CRC.READ returns the same values and records, and leaves the same SEQ, from two
states that differ in ACC alone: no such instruction reads ACC. -/
def Obligations.RunsThatDoNotReadAccCannotSeeIt : Prop :=
  ∀ (is : List Instr) (s : State) (a : Word), (∀ i ∈ is, readsAcc i = false) →
    match execAll is s with
    | .next t =>
      ∃ u, execAll is { s with acc := a } = .next u ∧ u.seq = t.seq ∧ u.results = t.results ∧ u.diags = t.diags ∧
        u.params = t.params
    | .fault r => execAll is { s with acc := a } = .fault r
    | .refused r => execAll is { s with acc := a } = .refused r

/-- R26, R96: only FR.DATA without the reset flag reads SEQ: any other instruction returns the same value and records and leaves the same
ACC from two states that differ in SEQ alone. -/
def Obligations.OnlyDataPacketsReadTheCounter : Prop :=
  ∀ (i : Instr) (s t : State) (n : Byte), readsSeq i = false → exec i s = .next t →
    ∃ u, exec i { s with seq := n } = .next u ∧ u.results = t.results ∧ u.diags = t.diags ∧ u.acc = t.acc ∧
      u.seq = (if writesSeq i = true then t.seq else n)

/-- R26, R42, R76: an instruction that R26 does not mark as reading the table does the same on an instance with any other
table. -/
def Obligations.OnlyTheChecksumReadsTheTable : Prop :=
  ∀ (i : Instr) (s t : State) (table : Vector Word 256), readsTable s.params i = false → exec i s = .next t →
    exec i { s with params := { s.params with crcTable := table } } =
      .next { t with params := { s.params with crcTable := table } }

/-- R36: an idempotent instruction issued twice in a row returns the same value twice and leaves the registers as once. -/
def Obligations.IdempotentInstructionsRepeat : Prop :=
  ∀ (i : Instr) (s t : State), idempotent i = true → exec i s = .next t →
    ∃ u, exec i t = .next u ∧ u.acc = t.acc ∧ u.seq = t.seq ∧ u.results.getLast? = t.results.getLast?

/-- R43, R53, R88, R99, R118: an invariant that every step keeps, from every state that has it: as many DIAG records as CRC_MISMATCH
outcomes, each record true, and every packet emitted a START packet of 8 bytes or a DATA packet. -/
def Obligations.StepKeepsThePortsSound : Prop :=
  ∀ s t : State, portsSound s → step s = .next t → portsSound t

/-- The invariant holds after reset of every instance. -/
def Obligations.PortsAreSoundAfterReset : Prop :=
  (∀ p : Params, portsSound (State.resetWith p)) ∧ portsSound State.reset

/-! ### The host's transfer -/

/-- R112, R116, R87: a transfer driven as R112 says, against a device that answers every packet as R116 describes a conforming one (a
premise), reaches DONE after START and every chunk, with no DIAG record, the counter advanced once a chunk. The transfer's definitions
are no part of the machine (DEDUCED, log entry 15), and that no chunk is built with the reset flag is the model's choice
(log entry 16). -/
def Obligations.TransferWithAConformingDeviceIsDone : Prop :=
  ∀ (s : State) (device : Bytes → Bytes) (appSize : Nat) (appCrc : Word) (chunks : List Bytes),
    (∀ m, s.params.maxLen = some m → 8 ≤ m ∧ ∀ c ∈ chunks, c.length + 2 ≤ m) →
    (∀ packet, packet ≠ [] → ∃ r0 r1, device packet = conformingAck s.params packet r0 r1) →
    ∃ t, drive device appSize appCrc chunks (chunks.length + 1) (.sendStart, s) = some (.done, t) ∧
      t.seq = s.seq + BitVec.ofNat 8 chunks.length ∧ t.diags = s.diags ∧ t.params = s.params

/-- R112, R90, R108: a round of the transfer, whatever the device answers. `packet` is what the round builds and `next` the
chunk that follows it. The round completes exactly when packet and reply are within MAX_LEN. It goes on to the next chunk, or is
done, exactly when the reply is an ACK with error NONE that carries the checksum of the packet's tail; otherwise the
transfer has failed with the outcome of the first cause, which is then not NONE; and a failed transfer stays so. ACC and SEQ
after the round are those the two commands leave. The transfer's definitions are no part of the machine (DEDUCED, log
entry 15), and that no chunk is built with the reset flag is the model's choice (log entry 16). -/
def Obligations.OnlySuccessAdvancesATransfer : Prop :=
  (∀ (device : Bytes → Bytes) (appSize : Nat) (appCrc : Word) (chunks : List Bytes) (s : State) (x : Transfer)
      (packet : Bytes) (next : Nat) (counter : Byte),
    (x = .sendStart ∧ packet = startPacket (BitVec.ofNat 24 appSize) appCrc ∧ next = 0 ∧ counter = s.seq) ∨
      (∃ k, x = .sendData k ∧ packet = 0x03#8 :: s.seq :: chunks.getD k [] ∧ next = k + 1 ∧ counter = s.seq + 1) →
    ((fits s.params packet && fits s.params (device packet)) = false →
      driveOnce device appSize appCrc chunks (x, s) = none) ∧
    ((fits s.params packet && fits s.params (device packet)) = true →
      ∃ y t, driveOnce device appSize appCrc chunks (x, s) = some (y, t) ∧
        t.seq = counter ∧
        (reachesStep5 s.params (device packet) = true → t.acc = crc s.params.crcTable packet.tail) ∧
        (reachesStep5 s.params (device packet) = false → t.acc = s.acc) ∧
        (reachesStep5 s.params (device packet) = true ∧
            readWord (device packet) 2 = crc s.params.crcTable packet.tail →
          y = if next < chunks.length then .sendData next else .done) ∧
        (¬(reachesStep5 s.params (device packet) = true ∧
            readWord (device packet) 2 = crc s.params.crcTable packet.tail) →
          firstCause s.params (device packet) packet ≠ .none ∧
            y = .failed (firstCause s.params (device packet) packet)))) ∧
  ∀ (device : Bytes → Bytes) (appSize : Nat) (appCrc : Word) (chunks : List Bytes) (s : State) (o : HostOutcome)
    (n : Nat), drive device appSize appCrc chunks n (.failed o, s) = some (.failed o, s)
end

