-- ==== Sys2Proof/Laws/Operands.lean ====
section
/-! SUPPORT. Big-endian fields: the length of an image, the value of a concatenation, and that reading an image gives the
value modulo its width; the fields of the two fixed-length packets; and the length bound. -/

namespace Sys2Proof.Machine

@[simp] theorem length_beBytes (n v : Nat) : (beBytes n v).length = n := by
  induction n with
  | zero => rfl
  | succ n ih => simp [beBytes, ih]

/-- Continuing the value of one sequence over another: the first weighs 256 to the length of the second. -/
theorem foldl_beValue (s : Bytes) (v : Nat) :
    s.foldl (fun v b => v * 256 + b.toNat) v = v * 256 ^ s.length + beValue s := by
  induction s generalizing v with
  | nil => simp [beValue]
  | cons b s ih =>
    simp only [List.foldl_cons, List.length_cons, beValue]
    rw [ih, ih (0 * 256 + b.toNat), pow_succ]
    ring

theorem beValue_cons (b : Byte) (s : Bytes) : beValue (b :: s) = b.toNat * 256 ^ s.length + beValue s := by
  simpa [beValue] using foldl_beValue s b.toNat

theorem beValue_append (s t : Bytes) : beValue (s ++ t) = beValue s * 256 ^ t.length + beValue t := by
  rw [beValue, List.foldl_append, foldl_beValue]
  rfl

/-- The value of `n` bytes is below `256 ^ n`. -/
theorem beValue_lt (s : Bytes) : beValue s < 256 ^ s.length := by
  induction s with
  | nil => simp [beValue]
  | cons b s ih =>
    have hb : b.toNat < 256 := b.isLt
    rw [beValue_cons, List.length_cons, pow_succ]
    nlinarith

/-- Reading the `n`-byte image of `v` gives `v` modulo `256 ^ n`. -/
theorem beValue_beBytes (n v : Nat) : beValue (beBytes n v) = v % 256 ^ n := by
  induction n with
  | zero => simp [beBytes, beValue, Nat.mod_one]
  | succ n ih =>
    have split : v % (256 ^ n * 256) = v % 256 ^ n + 256 ^ n * (v / 256 ^ n % 256) := Nat.mod_mul
    rw [beBytes, beValue_cons, ih, length_beBytes, BitVec.toNat_ofNat, pow_succ 256 n, split, Nat.add_comm,
      Nat.mul_comm]

/-- The image of the value of a sequence is the sequence. -/
theorem beBytes_beValue (s : Bytes) : beBytes s.length (beValue s) = s := by
  have general : ∀ (s : Bytes) (k : Nat), beBytes s.length (k * 256 ^ s.length + beValue s) = s := by
    intro s
    induction s with
    | nil => intro k; rfl
    | cons b s ih =>
      intro k
      have hs := beValue_lt s
      have hb : b.toNat < 256 := b.isLt
      have hpos : 0 < 256 ^ s.length := Nat.pow_pos (by decide)
      have key : k * 256 ^ (s.length + 1) + (b.toNat * 256 ^ s.length + beValue s) =
          (k * 256 + b.toNat) * 256 ^ s.length + beValue s := by ring
      have hdiv : ((k * 256 + b.toNat) * 256 ^ s.length + beValue s) / 256 ^ s.length = k * 256 + b.toNat := by
        rw [Nat.add_comm, Nat.add_mul_div_right _ _ hpos, Nat.div_eq_of_lt hs, Nat.zero_add]
      rw [List.length_cons, beBytes, beValue_cons, key, hdiv, ih]
      congr 1
      apply BitVec.eq_of_toNat_eq
      simp only [BitVec.toNat_ofNat]
      omega
  simpa using general s 0

@[simp] theorem length_be32Bytes (v : Word) : (be32Bytes v).length = 4 := length_beBytes 4 _

@[simp] theorem length_be24Bytes (v : BitVec 24) : (be24Bytes v).length = 3 := length_beBytes 3 _

theorem beValue_be32Bytes (v : Word) : beValue (be32Bytes v) = v.toNat := by
  rw [be32Bytes, beValue_beBytes]
  exact Nat.mod_eq_of_lt v.isLt

theorem beValue_be24Bytes (v : BitVec 24) : beValue (be24Bytes v) = v.toNat := by
  rw [be24Bytes, beValue_beBytes]
  exact Nat.mod_eq_of_lt v.isLt

@[simp] theorem length_startPacket (size : BitVec 24) (crc : Word) : (startPacket size crc).length = 8 := by
  simp [startPacket]

@[simp] theorem length_dataPacket (seq : Byte) (payload : Bytes) :
    (dataPacket seq payload).length = payload.length + 2 := rfl

@[simp] theorem length_ackPacket (err : Byte) (crc : Word) (rsv0 rsv1 : Byte) :
    (ackPacket err crc rsv0 rsv1).length = 8 := by
  simp [ackPacket]

/-- The size field of a START packet, bytes 1 to 3 (R44). -/
theorem memRead_startPacket_size (size : BitVec 24) (crc : Word) :
    memRead (startPacket size crc) 1 3 = size.toNat := by
  rw [← beValue_be24Bytes size]
  rfl

/-- The checksum field of a START packet, bytes 4 to 7 (R44). -/
theorem readWord_startPacket_crc (size : BitVec 24) (crc : Word) : readWord (startPacket size crc) 4 = crc := by
  have h : memRead (startPacket size crc) 4 4 = crc.toNat := by
    rw [← beValue_be32Bytes crc]
    rfl
  simp [readWord, h]

/-- The checksum field of an ACK packet, bytes 2 to 5 (R46). -/
theorem readWord_ackPacket_crc (err : Byte) (crc : Word) (rsv0 rsv1 : Byte) :
    readWord (ackPacket err crc rsv0 rsv1) 2 = crc := by
  have h : memRead (ackPacket err crc rsv0 rsv1) 2 4 = crc.toNat := by
    rw [← beValue_be32Bytes crc]
    rfl
  simp [readWord, h]

/-- Whether an operand fits depends on its length alone. -/
theorem fits_congr (p : Params) {s t : Bytes} (h : s.length = t.length) : fits p s = fits p t := by
  simp [fits, h]

/-- What fits is no longer than a finite bound, and everything fits an unbounded one. -/
theorem fits_iff (p : Params) (s : Bytes) : fits p s = true ↔ ∀ m, p.maxLen = some m → s.length ≤ m := by
  unfold fits
  cases p.maxLen <;> simp

end Sys2Proof.Machine
end

