-- ==== Sys2Proof/Laws/Decode.lean ====
section
/-! SUPPORT. The wire decoder read one row at a time: the rows that fix byte 0 whole, and what is left for the reserved
ids. -/

namespace Sys2Proof

open Sys2Proof.Machine

/-- An id that is none of the four message kinds is told apart by its leading bits alone (R53, R60). -/
theorem decodePacket_of_reserved {id : Byte} (rest prev : Bytes) (h0 : id ≠ idUnknown) (h1 : id ≠ idStart)
    (h2 : id ≠ idAck) (h3 : id ≠ idData) :
    decodePacket (id :: rest) prev =
      if id &&& 0xFC#8 = 0x04#8 then some (.pktRsv0407 id rest prev)
      else if id &&& 0xF8#8 = 0x08#8 then some (.pktRsv080F id rest prev)
      else if id &&& 0xF0#8 = 0x10#8 then some (.pktRsv101F id rest prev)
      else if id &&& 0xE0#8 = 0x20#8 then some (.pktRsv203F id rest prev)
      else if id &&& 0xC0#8 = 0x40#8 then some (.pktRsv407F id rest prev)
      else some (.pktRsv80FF id rest prev) := by
  simp only [decodePacket, h0, h1, h2, h3, if_false]

/-- An 8-byte sequence with the START id (R44). -/
theorem decodePacket_of_start (rest prev : Bytes) (h : (idStart :: rest).length = fixedLength) :
    decodePacket (idStart :: rest) prev =
      some (.pktStart (BitVec.ofNat 24 (memRead (idStart :: rest) 1 3)) (readWord (idStart :: rest) 4) prev) := by
  have hid : idStart ≠ idUnknown := by decide
  simp only [decodePacket, hid, if_false, if_true, h]

/-- An 8-byte sequence with the ACK id (R46). -/
theorem decodePacket_of_ack (rest prev : Bytes) (h : (idAck :: rest).length = fixedLength) :
    decodePacket (idAck :: rest) prev =
      some (.pktAck ((idAck :: rest).getD 1 0) (readWord (idAck :: rest) 2) ((idAck :: rest).getD 6 0)
        ((idAck :: rest).getD 7 0) prev) := by
  have hid0 : idAck ≠ idUnknown := by decide
  have hid1 : idAck ≠ idStart := by decide
  simp only [decodePacket, hid0, hid1, if_false, if_true, h]

end Sys2Proof
end

