-- ==== Sys2Proof/Laws/State.lean ====
section
/-! SUPPORT. One lemma for each field of State under each of its updates, so that no later proof unfolds a record
update; and what reset leaves in each field. -/

namespace Sys2Proof.Machine

@[simp] theorem State.acc_setAcc (s : State) (v : Word) : (s.setAcc v).acc = v := rfl
@[simp] theorem State.seq_setAcc (s : State) (v : Word) : (s.setAcc v).seq = s.seq := rfl
@[simp] theorem State.params_setAcc (s : State) (v : Word) : (s.setAcc v).params = s.params := rfl
@[simp] theorem State.requests_setAcc (s : State) (v : Word) : (s.setAcc v).requests = s.requests := rfl
@[simp] theorem State.results_setAcc (s : State) (v : Word) : (s.setAcc v).results = s.results := rfl
@[simp] theorem State.diags_setAcc (s : State) (v : Word) : (s.setAcc v).diags = s.diags := rfl

@[simp] theorem State.acc_setSeq (s : State) (v : Byte) : (s.setSeq v).acc = s.acc := rfl
@[simp] theorem State.seq_setSeq (s : State) (v : Byte) : (s.setSeq v).seq = v := rfl
@[simp] theorem State.params_setSeq (s : State) (v : Byte) : (s.setSeq v).params = s.params := rfl
@[simp] theorem State.requests_setSeq (s : State) (v : Byte) : (s.setSeq v).requests = s.requests := rfl
@[simp] theorem State.results_setSeq (s : State) (v : Byte) : (s.setSeq v).results = s.results := rfl
@[simp] theorem State.diags_setSeq (s : State) (v : Byte) : (s.setSeq v).diags = s.diags := rfl

@[simp] theorem State.acc_deliver (s : State) (r : Result) : (s.deliver r).acc = s.acc := rfl
@[simp] theorem State.seq_deliver (s : State) (r : Result) : (s.deliver r).seq = s.seq := rfl
@[simp] theorem State.params_deliver (s : State) (r : Result) : (s.deliver r).params = s.params := rfl
@[simp] theorem State.requests_deliver (s : State) (r : Result) : (s.deliver r).requests = s.requests := rfl
@[simp] theorem State.results_deliver (s : State) (r : Result) : (s.deliver r).results = s.results ++ [r] := rfl
@[simp] theorem State.diags_deliver (s : State) (r : Result) : (s.deliver r).diags = s.diags := rfl

@[simp] theorem State.acc_emitDiag (s : State) (d : Diag) : (s.emitDiag d).acc = s.acc := rfl
@[simp] theorem State.seq_emitDiag (s : State) (d : Diag) : (s.emitDiag d).seq = s.seq := rfl
@[simp] theorem State.params_emitDiag (s : State) (d : Diag) : (s.emitDiag d).params = s.params := rfl
@[simp] theorem State.requests_emitDiag (s : State) (d : Diag) : (s.emitDiag d).requests = s.requests := rfl
@[simp] theorem State.results_emitDiag (s : State) (d : Diag) : (s.emitDiag d).results = s.results := rfl
@[simp] theorem State.diags_emitDiag (s : State) (d : Diag) : (s.emitDiag d).diags = s.diags ++ [d] := rfl

@[simp] theorem State.acc_resetWith (p : Params) : (State.resetWith p).acc = accReset := rfl
@[simp] theorem State.seq_resetWith (p : Params) : (State.resetWith p).seq = seqReset := rfl
@[simp] theorem State.params_resetWith (p : Params) : (State.resetWith p).params = p := rfl
@[simp] theorem State.requests_resetWith (p : Params) : (State.resetWith p).requests = [] := rfl
@[simp] theorem State.results_resetWith (p : Params) : (State.resetWith p).results = [] := rfl
@[simp] theorem State.diags_resetWith (p : Params) : (State.resetWith p).diags = [] := rfl

end Sys2Proof.Machine
end

