-- ==== Sys2Proof/Laws/Validation.lean ====
section
/-! SUPPORT. Everything the shared validation can do, said once: its early outcomes, its last step, and what it leaves
alone. Proofs about AV.VALIDATE and the received packets cite these instead of unfolding the operation. -/

namespace Sys2Proof.Machine

/-- The decoder of error bytes reads only the code map, and NONE comes first. -/
theorem decodeErr_none_code (c : ErrCodes) : decodeErr c c.none = some .none := by
  simp [decodeErr, deviceErrors, errByte]

/-- An error that was decoded has the byte as its code. -/
theorem errByte_of_decodeErr {c : ErrCodes} {e : Byte} {n : DeviceError} (h : decodeErr c e = some n) :
    errByte c n = e := by
  simpa using List.find?_some h

/-- Steps 1 to 4 reach no outcome exactly for an 8-byte ACK whose error byte decodes to NONE. -/
theorem earlyOutcome_eq_none_iff (c : ErrCodes) (ack : Bytes) :
    earlyOutcome c ack = none ↔ ack.length = 8 ∧ ack.getD 0 0 = idAck ∧ ack.getD 1 0 = c.none := by
  unfold earlyOutcome fixedLength
  split
  case isTrue hl => exact iff_of_false (by simp) (fun h => hl h.1)
  case isFalse hl =>
    split
    case isTrue hid => exact iff_of_false (by simp) (fun h => hid h.2.1)
    case isFalse hid =>
      constructor
      · intro h
        split at h <;> try cases h
        next heq => exact ⟨not_not.mp hl, not_not.mp hid, (errByte_of_decodeErr heq).symm⟩
      · intro h
        rw [h.2.2, decodeErr_none_code]

/-- The last step, with a previous packet: ACC holds the checksum of its tail; the outcome is NONE on equality and
otherwise CRC_MISMATCH with one record. -/
theorem checkPrevious_cons (ack tail : Bytes) (id : Byte) (s : State) :
    checkPrevious ack (id :: tail) s =
      if crc s.params.crcTable tail = readWord ack 2 then
        .next ((s.setAcc (crc s.params.crcTable tail)).deliver (.outcome .none))
      else
        .next (((s.setAcc (crc s.params.crcTable tail)).emitDiag
          ⟨crc s.params.crcTable tail, readWord ack 2, ack, id :: tail⟩).deliver (.outcome .crcMismatch)) := rfl

/-- Everything a validation can do when it answers a next state: an early outcome and nothing else, or the last step with
a previous packet, matching or not. -/
theorem validateReply_next {ack prev : Bytes} {s t : State} (h : validateReply ack prev s = .next t) :
    fits s.params ack = true ∧ fits s.params prev = true ∧
      ((∃ o, earlyOutcome s.params.errCode ack = some o ∧ t = s.deliver (.outcome o)) ∨
        (earlyOutcome s.params.errCode ack = none ∧ ∃ id tail, prev = id :: tail ∧
          ((crc s.params.crcTable tail = readWord ack 2 ∧
              t = (s.setAcc (crc s.params.crcTable tail)).deliver (.outcome .none)) ∨
            (crc s.params.crcTable tail ≠ readWord ack 2 ∧
              t = ((s.setAcc (crc s.params.crcTable tail)).emitDiag
                ⟨crc s.params.crcTable tail, readWord ack 2, ack, prev⟩).deliver (.outcome .crcMismatch))))) := by
  unfold validateReply at h
  split at h
  case isFalse => cases h
  case isTrue hf =>
    rw [Bool.and_eq_true] at hf
    refine ⟨hf.1, hf.2, ?_⟩
    split at h
    case h_1 o ho =>
      cases h
      exact .inl ⟨o, ho, rfl⟩
    case h_2 ho =>
      refine .inr ⟨ho, ?_⟩
      cases prev with
      | nil => cases h
      | cons id tail =>
        refine ⟨id, tail, rfl, ?_⟩
        rw [checkPrevious_cons] at h
        split at h
        case isTrue he =>
          cases h
          exact .inl ⟨he, rfl⟩
        case isFalse he =>
          cases h
          exact .inr ⟨he, rfl⟩

/-- A validation with an early outcome, both operands within `MAX_LEN`. -/
theorem validateReply_early {ack prev : Bytes} {s : State} {o : HostOutcome} (ha : fits s.params ack = true)
    (hp : fits s.params prev = true) (ho : earlyOutcome s.params.errCode ack = some o) :
    validateReply ack prev s = .next (s.deliver (.outcome o)) := by
  simp [validateReply, ha, hp, ho]

/-- A validation that reaches the last step, both operands within `MAX_LEN`. -/
theorem validateReply_last {ack prev : Bytes} {s : State} (ha : fits s.params ack = true)
    (hp : fits s.params prev = true) (ho : earlyOutcome s.params.errCode ack = none) :
    validateReply ack prev s = checkPrevious ack prev s := by
  simp [validateReply, ha, hp, ho]

/-- A validation never returns a word, a packet or nothing, and leaves SEQ, the parameters and the requests alone. -/
theorem validateReply_frame {ack prev : Bytes} {s t : State} (h : validateReply ack prev s = .next t) :
    t.seq = s.seq ∧ t.params = s.params ∧ t.requests = s.requests ∧
      ∃ o, t.results = s.results ++ [.outcome o] := by
  obtain ⟨-, -, ⟨o, -, rfl⟩ | ⟨-, id, tail, -, ⟨-, rfl⟩ | ⟨-, rfl⟩⟩⟩ := validateReply_next h <;> simp

end Sys2Proof.Machine
end

