-- ==== Sys2Proof/Laws/Exec.lean ====
section
/-! SUPPORT. What every instruction leaves alone, said once for `exec`: the parameters and the requests still to come, which no
meaning reads; and the machine's run, one step at a time. -/

namespace Sys2Proof.Machine

/-- The two outcomes are one up to the requests still to come. -/
def sameButRequests (q : List Request) (x y : Host.Outcome State Fault Refusal) : Prop :=
  match x with
  | .next t => y = .next { t with requests := q }
  | .fault r => y = .fault r
  | .refused r => y = .refused r

/-- A validation does not look at the requests to come and passes them on. -/
theorem validateReply_requests (ack prev : Bytes) (s : State) (q : List Request) :
    sameButRequests q (validateReply ack prev s) (validateReply ack prev { s with requests := q }) := by
  unfold validateReply
  by_cases h : (fits s.params ack && fits s.params prev) = true
  · simp only [h, if_true]
    cases earlyOutcome s.params.errCode ack with
    | some o => rfl
    | none =>
      cases prev with
      | nil => rfl
      | cons id tail =>
        simp only [checkPrevious_cons]
        by_cases he : crc s.params.crcTable tail = readWord ack 2
        · simp only [he, if_true]
          rfl
        · simp only [he, if_false]
          rfl
  · simp only [h]
    rfl

/-- No instruction looks at the requests to come, and every one passes them on. -/
theorem exec_requests (i : Instr) (s : State) (q : List Request) :
    sameButRequests q (exec i s) (exec i { s with requests := q }) := by
  cases i
  case crcInit => rfl
  case crcByte => rfl
  case crcRead => rfl
  case crcCompute buf =>
    simp only [exec, execCrcCompute]
    cases fits s.params buf <;> rfl
  case frStart => rfl
  case frData payload reset =>
    simp only [exec, execFrData]
    cases fits s.params payload <;> rfl
  case frSrst => rfl
  all_goals exact validateReply_requests _ _ s q

/-- The parameters of an instance never change, and a meaning leaves the requests to come as they are. -/
theorem exec_keeps_params_and_requests {i : Instr} {s t : State} (h : exec i s = .next t) :
    t.params = s.params ∧ t.requests = s.requests := by
  cases i
  case crcInit => cases h; exact ⟨rfl, rfl⟩
  case crcByte => cases h; exact ⟨rfl, rfl⟩
  case crcRead => cases h; exact ⟨rfl, rfl⟩
  case crcCompute buf =>
    simp only [exec, execCrcCompute] at h
    split at h <;> cases h
    exact ⟨rfl, rfl⟩
  case frStart => cases h; exact ⟨rfl, rfl⟩
  case frData payload reset =>
    simp only [exec, execFrData] at h
    split at h <;> cases h
    exact ⟨rfl, rfl⟩
  case frSrst => cases h; exact ⟨rfl, rfl⟩
  all_goals
    have hf := validateReply_frame h
    exact ⟨hf.2.1, hf.2.2.1⟩

/-- One step of a run that goes on. -/
theorem run_succ_of_next {s t : State} (k : Nat) (h : step s = .next t) :
    Host.Core.run core (k + 1) s = Host.Core.run core k t := by
  have hs : core.step s = .next t := h
  simp only [Host.Core.run, hs]

/-- One step of a run that is refused. -/
theorem run_succ_of_refused {s : State} {r : Refusal} (k : Nat) (h : step s = .refused r) :
    Host.Core.run core (k + 1) s = .refused r := by
  have hs : core.step s = .refused r := h
  simp only [Host.Core.run, hs]

end Sys2Proof.Machine
end

