-- ==== Sys2Proof/Laws/PerInstr.lean ====
section
/-! SUPPORT. A statement about every row of spec/opcode_table.json, one lemma per constructor: the first byte a
well-formed instruction puts on the port or on the wire has the match of its row under the row's mask. -/

namespace Sys2Proof.Laws.TableRow

open Sys2Proof.Machine

/-- `match` and `mask` of the instruction's row, for byte 0 (R49, R53, R60). -/
def rowOf : Instr → Byte × Byte
  | .crcInit => (0x01, 0xFF)
  | .crcByte _ => (0x02, 0xFF)
  | .crcRead => (0x03, 0xFF)
  | .crcCompute _ => (0x04, 0xFF)
  | .frStart _ _ => (0x10, 0xFF)
  | .frData _ _ => (0x11, 0xFF)
  | .frSrst => (0x12, 0xFF)
  | .avValidate _ _ => (0x20, 0xFF)
  | .pktStart _ _ _ => (0x01, 0xFF)
  | .pktData _ _ _ => (0x03, 0xFF)
  | .pktAck _ _ _ _ _ => (0x02, 0xFF)
  | .pktUnknown _ _ => (0x00, 0xFF)
  | .pktRsv0407 _ _ _ => (0x04, 0xFC)
  | .pktRsv080F _ _ _ => (0x08, 0xF8)
  | .pktRsv101F _ _ _ => (0x10, 0xF0)
  | .pktRsv203F _ _ _ => (0x20, 0xE0)
  | .pktRsv407F _ _ _ => (0x40, 0xC0)
  | .pktRsv80FF _ _ _ => (0x80, 0x80)

/-- The command code of a command, byte 0 of a packet. -/
def firstByte : Request → Option Byte
  | .command code _ => some code
  | .reply packet _ => packet.head?

/-- The first byte of the encoding matches the row. -/
def Statement (i : Instr) : Prop :=
  i.wf = true → ∃ b, firstByte (encode i) = some b ∧ b &&& (rowOf i).2 = (rowOf i).1

theorem crcInit : Statement .crcInit := fun _ => ⟨0x01, rfl, by simp only [rowOf]; decide⟩

theorem crcByte (b : Byte) : Statement (.crcByte b) := fun _ => ⟨0x02, rfl, by simp only [rowOf]; decide⟩

theorem crcRead : Statement .crcRead := fun _ => ⟨0x03, rfl, by simp only [rowOf]; decide⟩

theorem crcCompute (buf : Bytes) : Statement (.crcCompute buf) :=
  fun _ => ⟨0x04, rfl, by simp only [rowOf]; decide⟩

theorem frStart (appSize : Nat) (appCrc : Word) : Statement (.frStart appSize appCrc) :=
  fun _ => ⟨0x10, rfl, by simp only [rowOf]; decide⟩

theorem frData (payload : Bytes) (resetSequence : Bool) : Statement (.frData payload resetSequence) :=
  fun _ => ⟨0x11, rfl, by simp only [rowOf]; decide⟩

theorem frSrst : Statement .frSrst := fun _ => ⟨0x12, rfl, by simp only [rowOf]; decide⟩

theorem avValidate (ack prev : Bytes) : Statement (.avValidate ack prev) :=
  fun _ => ⟨0x20, rfl, by simp only [rowOf]; decide⟩

theorem pktStart (size : BitVec 24) (crc : Word) (prev : Bytes) : Statement (.pktStart size crc prev) :=
  fun _ => ⟨idStart, rfl, by simp only [rowOf]; decide⟩

theorem pktData (seq : Byte) (payload prev : Bytes) : Statement (.pktData seq payload prev) :=
  fun _ => ⟨idData, rfl, by simp only [rowOf]; decide⟩

theorem pktAck (err : Byte) (crc : Word) (rsv0 rsv1 : Byte) (prev : Bytes) :
    Statement (.pktAck err crc rsv0 rsv1 prev) := fun _ => ⟨idAck, rfl, by simp only [rowOf]; decide⟩

theorem pktUnknown (rest prev : Bytes) : Statement (.pktUnknown rest prev) :=
  fun _ => ⟨idUnknown, rfl, by simp only [rowOf]; decide⟩

theorem pktRsv0407 (id : Byte) (rest prev : Bytes) : Statement (.pktRsv0407 id rest prev) :=
  fun h => ⟨id, rfl, eq_of_beq h⟩

theorem pktRsv080F (id : Byte) (rest prev : Bytes) : Statement (.pktRsv080F id rest prev) :=
  fun h => ⟨id, rfl, eq_of_beq h⟩

theorem pktRsv101F (id : Byte) (rest prev : Bytes) : Statement (.pktRsv101F id rest prev) :=
  fun h => ⟨id, rfl, eq_of_beq h⟩

theorem pktRsv203F (id : Byte) (rest prev : Bytes) : Statement (.pktRsv203F id rest prev) :=
  fun h => ⟨id, rfl, eq_of_beq h⟩

theorem pktRsv407F (id : Byte) (rest prev : Bytes) : Statement (.pktRsv407F id rest prev) :=
  fun h => ⟨id, rfl, eq_of_beq h⟩

theorem pktRsv80FF (id : Byte) (rest prev : Bytes) : Statement (.pktRsv80FF id rest prev) :=
  fun h => ⟨id, rfl, eq_of_beq h⟩

end Sys2Proof.Laws.TableRow
end

