-- ==== Sys2Proof/Tests/Slice0.lean ====
section
/-! SUPPORT. The model's own tests: what WellFormed refuses; words and wire images written out from the spec's encodings;
one step of each instruction on the vectors of spec/95_test_vectors.md; and, for every obligation with hypotheses, a
concrete state and operands that meet them. Expected values come from spec/, never from the model. -/

namespace Sys2Proof.Tests

open Sys2Proof Sys2Proof.Machine

/-! ### Helpers -/

/-- The default instance with `(ACC, SEQ)` as spec/95 writes it. -/
def at' (a : Word) (q : Byte) : State := { State.reset with acc := a, seq := q }

/-- The default instance with a finite `MAX_LEN`. -/
def bounded (m : Nat) : State := State.resetWith { defaultParams with maxLen := some m }

/-- What spec/95 shows of a next state: ACC, SEQ, the values returned, the records. -/
def seen (o : Host.Outcome State Fault Refusal) : Option (Word × Byte × List Result × List Diag) :=
  match o with
  | .next t => some (t.acc, t.seq, t.results, t.diags)
  | .fault _ => none
  | .refused _ => none

/-- The name a step is refused with. -/
def stopped (o : Host.Outcome State Fault Refusal) : Option Refusal :=
  match o with
  | .next _ => none
  | .fault _ => none
  | .refused r => some r

/-- The DATA packet of spec/95 section 2.3. -/
def packetP : Bytes := [0x03, 0x01, 0xCC]

/-! ### WellFormed refuses an id outside its row, at both ends of the row (R53, R60) -/

theorem test_wf_rsv0407 : (Instr.pktRsv0407 0x03 [] []).wf = false ∧ (Instr.pktRsv0407 0x08 [] []).wf = false := by decide
theorem test_wf_rsv080F : (Instr.pktRsv080F 0x07 [] []).wf = false ∧ (Instr.pktRsv080F 0x10 [] []).wf = false := by decide
theorem test_wf_rsv101F : (Instr.pktRsv101F 0x0F [] []).wf = false ∧ (Instr.pktRsv101F 0x20 [] []).wf = false := by decide
theorem test_wf_rsv203F : (Instr.pktRsv203F 0x1F [] []).wf = false ∧ (Instr.pktRsv203F 0x40 [] []).wf = false := by decide
theorem test_wf_rsv407F : (Instr.pktRsv407F 0x3F [] []).wf = false ∧ (Instr.pktRsv407F 0x80 [] []).wf = false := by decide
theorem test_wf_rsv80FF : (Instr.pktRsv80FF 0x7F [] []).wf = false ∧ (Instr.pktRsv80FF 0x00 [] []).wf = false := by decide

/-! ### Decoding: codes of R49, images of R44 to R46 and spec/95 section 2.4 -/

/-- The ports of the decode tests: every port holds something else. -/
def ports : OperandPorts :=
  { b := 0x41, buf := [0x31], appSize := 0x01020304, appCrc := 0xDEADBEEF, payload := [0xAA, 0xBB],
    resetSequence := true, ack := [0x02], prev := [0x03] }

theorem test_decode_crcInit : decode (.command 0b00000001 ports) = .ok .crcInit := rfl
theorem test_decode_crcByte : decode (.command 0b00000010 ports) = .ok (.crcByte 0x41) := rfl
theorem test_decode_crcRead : decode (.command 0b00000011 ports) = .ok .crcRead := rfl
theorem test_decode_crcCompute : decode (.command 0b00000100 ports) = .ok (.crcCompute [0x31]) := rfl
theorem test_decode_frStart : decode (.command 0b00010000 ports) = .ok (.frStart 0x01020304 0xDEADBEEF) := rfl
theorem test_decode_frData : decode (.command 0b00010001 ports) = .ok (.frData [0xAA, 0xBB] true) := rfl
theorem test_decode_frSrst : decode (.command 0b00010010 ports) = .ok .frSrst := rfl
theorem test_decode_avValidate : decode (.command 0b00100000 ports) = .ok (.avValidate [0x02] [0x03]) := rfl

/-- R56 and spec/95 section 2.4: the neighbours of the eight codes are refused. -/
theorem test_decode_reserved_codes :
    [0x00#8, 0x05#8, 0x0F#8, 0x13#8, 0x1F#8, 0x21#8, 0xFF#8].map (fun c => decode (.command c ports)) =
      [0x00#8, 0x05#8, 0x0F#8, 0x13#8, 0x1F#8, 0x21#8, 0xFF#8].map (fun c => .error (.illegalCommand c)) := rfl

theorem test_decode_pktStart :
    decodeTableWord 64 0x01020304DEADBEEF = some (.pktStart 0x020304 0xDEADBEEF [0]) := by decide
theorem test_decode_pktAck :
    decodeTableWord 64 0x0203BA28AE5CA55A = some (.pktAck 0x03 0xBA28AE5C 0xA5 0x5A [0]) := by decide
theorem test_decode_pktData :
    decodePacket [0x03, 0xFF, 0x11] packetP = some (.pktData 0xFF [0x11] packetP) := by decide
theorem test_decode_pktData_empty : decodeTableWord 16 0x7F03 = some (.pktData 0x7F [] [0]) := by decide
theorem test_decode_pktUnknown : decodeTableWord 8 0x00 = some (.pktUnknown (List.replicate 7 0) [0]) := by decide
theorem test_decode_pktRsv0407 :
    decodePacket [0x04] [0] = some (.pktRsv0407 0x04 [] [0]) ∧ decodePacket [0x07] [0] = some (.pktRsv0407 0x07 [] [0]) := by
  decide
theorem test_decode_pktRsv080F :
    decodePacket [0x08] [0] = some (.pktRsv080F 0x08 [] [0]) ∧ decodePacket [0x0F] [0] = some (.pktRsv080F 0x0F [] [0]) := by
  decide
theorem test_decode_pktRsv101F :
    decodePacket [0x10] [0] = some (.pktRsv101F 0x10 [] [0]) ∧ decodePacket [0x1F] [0] = some (.pktRsv101F 0x1F [] [0]) := by
  decide
theorem test_decode_pktRsv203F :
    decodePacket [0x20] [0] = some (.pktRsv203F 0x20 [] [0]) ∧ decodePacket [0x3F] [0] = some (.pktRsv203F 0x3F [] [0]) := by
  decide
theorem test_decode_pktRsv407F :
    decodePacket [0x40] [0] = some (.pktRsv407F 0x40 [] [0]) ∧ decodePacket [0x7F] [0] = some (.pktRsv407F 0x7F [] [0]) := by
  decide
theorem test_decode_pktRsv80FF :
    decodePacket [0x80] [0] = some (.pktRsv80FF 0x80 [] [0]) ∧ decodePacket [0xFF] [0] = some (.pktRsv80FF 0xFF [] [0]) := by
  decide

/-- R52: a START or ACK id at a length that is not 8, a lone DATA id and the empty sequence are no packet. -/
theorem test_decode_no_packet :
    decodePacket [] [0] = none ∧ decodePacket [0x01, 0, 0, 0, 0, 0, 0] [0] = none ∧
      decodePacket [0x02, 0, 0, 0, 0, 0, 0, 0, 0] [0] = none ∧ decodePacket [0x03] [0] = none := by decide

/-! ### One step of each instruction: spec/95 sections 2.1, 2.2, 2.3 -/

theorem test_crcInit : seen (exec .crcInit (at' 0x12345678 0x2A)) = some (0xFFFFFFFF, 0x2A, [.nothing], []) := by decide
theorem test_crcByte :
    seen (exec (.crcByte 0x41) (at' 0xFFFFFFFF 0x00)) = some (0x7E4FD274, 0x00, [.nothing], []) := by decide
theorem test_crcByte_zero :
    seen (exec (.crcByte 0x00) (at' 0x12345678 0x00)) = some (0x71C5981E, 0x00, [.nothing], []) := by decide
theorem test_crcRead :
    seen (exec .crcRead (at' 0x0376E6E7 0x09)) = some (0x0376E6E7, 0x09, [.word 0x0376E6E7], []) := by decide
theorem test_crcCompute :
    seen (exec (.crcCompute [0x41, 0x42]) (at' 0xDEADBEEF 0x05)) = some (0xAEEC82F4, 0x05, [.word 0xAEEC82F4], []) := by
  decide
/-- A buffer followed by its own big-endian checksum (spec/95 section 2.1). -/
theorem test_crcCompute_own_checksum :
    crc tMpeg2 [0x31, 0x32, 0x33, 0x34, 0x35, 0x36, 0x37, 0x38, 0x39, 0x03, 0x76, 0xE6, 0xE7] = 0 := by decide
theorem test_frStart :
    seen (exec (.frStart 0x01020304 0xDEADBEEF) (at' 0xAEEC82F4 0x37)) =
      some (0xAEEC82F4, 0x37, [.bytes [0x01, 0x02, 0x03, 0x04, 0xDE, 0xAD, 0xBE, 0xEF]], []) := by decide
theorem test_frStart_wide_size :
    seen (exec (.frStart 0x1FFFFFFFF 0x00000001) (at' 0xFFFFFFFF 0x00)) =
      some (0xFFFFFFFF, 0x00, [.bytes [0x01, 0xFF, 0xFF, 0xFF, 0x00, 0x00, 0x00, 0x01]], []) := by decide
theorem test_frData_wrap :
    seen (exec (.frData [0x11] false) (at' 0xFFFFFFFF 0xFF)) = some (0xFFFFFFFF, 0x00, [.bytes [0x03, 0xFF, 0x11]], []) := by
  decide
theorem test_frData_reset :
    seen (exec (.frData [0xAA, 0xBB] true) (at' 0xFFFFFFFF 0x05)) =
      some (0xFFFFFFFF, 0x01, [.bytes [0x03, 0x00, 0xAA, 0xBB]], []) := by decide
theorem test_frSrst : seen (exec .frSrst (at' 0x0376E6E7 0x9C)) = some (0x0376E6E7, 0x00, [.nothing], []) := by decide

/-- The rows of spec/95 section 2.3 that end before step 5: reply, outcome. -/
def earlyRows : List (Bytes × HostOutcome) :=
  [ ([], .sizeTooLarge),
    ([0x03, 0x02, 0x00, 0x00, 0x00, 0x00, 0x00], .sizeTooLarge),
    ([0x02, 0x00, 0xBA, 0x28, 0xAE, 0x5C, 0x00], .sizeTooLarge),
    ([0x02, 0x00, 0xBA, 0x28, 0xAE, 0x5C, 0x00, 0x00, 0x00], .sizeTooLarge),
    ([0x01, 0x00, 0x00, 0x00, 0x00, 0x00, 0x00, 0x00], .invalidMessageId),
    ([0x00, 0x00, 0x00, 0x00, 0x00, 0x00, 0x00, 0x00], .invalidMessageId),
    ([0x03, 0xFF, 0x00, 0x00, 0x00, 0x00, 0x00, 0x00], .invalidMessageId),
    ([0x02, 0x07, 0xDE, 0xAD, 0xBE, 0xEF, 0x00, 0x00], .unknownErrorCode),
    ([0x02, 0xFF, 0x00, 0x00, 0x00, 0x00, 0x00, 0x00], .unknownErrorCode),
    ([0x02, 0x01, 0xDE, 0xAD, 0xBE, 0xEF, 0x00, 0x00], .packetOverrun),
    ([0x02, 0x02, 0xDE, 0xAD, 0xBE, 0xEF, 0x00, 0x00], .enterDfuNotRequested),
    ([0x02, 0x03, 0xBA, 0x28, 0xAE, 0x5C, 0x00, 0x00], .outOfSequence),
    ([0x02, 0x04, 0xDE, 0xAD, 0xBE, 0xEF, 0x00, 0x00], .invalidMessageId),
    ([0x02, 0x05, 0xDE, 0xAD, 0xBE, 0xEF, 0x00, 0x00], .sizeTooLarge),
    ([0x02, 0x06, 0xDE, 0xAD, 0xBE, 0xEF, 0x00, 0x00], .internalError) ]

/-- The rows of spec/95 section 2.3 for `P` that reach step 5: checksum field and reserved bytes, received value,
outcome. -/
def lastRows : List (Bytes × Word × HostOutcome) :=
  [ ([0xBA, 0x28, 0xAE, 0x5C, 0x00, 0x00], 0xBA28AE5C, .none),
    ([0xBA, 0x28, 0xAE, 0x5C, 0xA5, 0x5A], 0xBA28AE5C, .none),
    ([0xBA, 0x28, 0xAE, 0x5D, 0x00, 0x00], 0xBA28AE5D, .crcMismatch),
    ([0x0F, 0x92, 0x42, 0xA8, 0x00, 0x00], 0x0F9242A8, .crcMismatch),
    ([0x5C, 0xAE, 0x28, 0xBA, 0x00, 0x00], 0x5CAE28BA, .crcMismatch),
    ([0xDE, 0xAD, 0xBE, 0xEF, 0x00, 0x00], 0xDEADBEEF, .crcMismatch) ]

theorem test_avValidate_early : ∀ row ∈ earlyRows,
    seen (exec (.avValidate row.1 packetP) (at' 0x0376E6E7 0x02)) = some (0x0376E6E7, 0x02, [.outcome row.2], []) := by
  decide

theorem test_avValidate_last : ∀ row ∈ lastRows,
    seen (exec (.avValidate (0x02 :: 0x00 :: row.1) packetP) (at' 0x0376E6E7 0x02)) =
      some (0xBA28AE5C, 0x02, [.outcome row.2.2],
        if row.2.2 = .none then [] else [⟨0xBA28AE5C, row.2.1, 0x02 :: 0x00 :: row.1, packetP⟩]) := by decide

/-- One-byte and empty previous packets (spec/95 section 2.3, R98). -/
theorem test_avValidate_short_previous :
    seen (exec (.avValidate [0x02, 0x00, 0xFF, 0xFF, 0xFF, 0xFF, 0, 0] [0x7E]) (at' 0x0376E6E7 0x02)) =
        some (0xFFFFFFFF, 0x02, [.outcome .none], []) ∧
      seen (exec (.avValidate [0x02, 0x02, 0xDE, 0xAD, 0xBE, 0xEF, 0, 0] []) (at' 0x0376E6E7 0x02)) =
        some (0x0376E6E7, 0x02, [.outcome .enterDfuNotRequested], []) ∧
      stopped (exec (.avValidate [0x02, 0x00, 0xFF, 0xFF, 0xFF, 0xFF, 0, 0] []) (at' 0x0376E6E7 0x02)) =
        some .emptyPrevious := by decide

theorem test_pktAck :
    seen (exec (.pktAck 0x00 0x54F84A0C 0x00 0x00 [0x01, 0x02, 0x03, 0x04, 0xDE, 0xAD, 0xBE, 0xEF]) (at' 0x0376E6E7 0x02)) =
      some (0x54F84A0C, 0x02, [.outcome .none], []) := by decide
theorem test_pktStart :
    seen (exec (.pktStart 0x020304 0xDEADBEEF packetP) (at' 0x0376E6E7 0x02)) =
      some (0x0376E6E7, 0x02, [.outcome .invalidMessageId], []) := by decide
theorem test_pktData :
    seen (exec (.pktData 0xFF [0, 0, 0, 0, 0, 0] packetP) (at' 0x0376E6E7 0x02)) =
        some (0x0376E6E7, 0x02, [.outcome .invalidMessageId], []) ∧
      seen (exec (.pktData 0x02 [0, 0, 0, 0, 0] packetP) (at' 0x0376E6E7 0x02)) =
        some (0x0376E6E7, 0x02, [.outcome .sizeTooLarge], []) := by decide
theorem test_pktUnknown :
    seen (exec (.pktUnknown (List.replicate 7 0) packetP) (at' 0x0376E6E7 0x02)) =
      some (0x0376E6E7, 0x02, [.outcome .invalidMessageId], []) := by decide
/-- R53: an 8-byte reply with a reserved id, one id of each row. -/
theorem test_pktRsv :
    ∀ i ∈ [Instr.pktRsv0407 0x04 (List.replicate 7 0) packetP, .pktRsv080F 0x0F (List.replicate 7 0) packetP,
      .pktRsv101F 0x10 (List.replicate 7 0) packetP, .pktRsv203F 0x3F (List.replicate 7 0) packetP,
      .pktRsv407F 0x40 (List.replicate 7 0) packetP, .pktRsv80FF 0xFF (List.replicate 7 0) packetP],
    seen (exec i (at' 0x0376E6E7 0x02)) = some (0x0376E6E7, 0x02, [.outcome .invalidMessageId], []) := by decide

/-- R38, spec/95 section 2.5: `MAX_LEN` bytes are accepted, one more is refused. -/
theorem test_maxLen :
    (seen (exec (.crcCompute [1, 2]) (bounded 2))).isSome ∧
      stopped (exec (.crcCompute [1, 2, 3]) (bounded 2)) = some .operandTooLong ∧
      (seen (exec (.frData [1, 2] false) (bounded 2))).isSome ∧
      stopped (exec (.frData [1, 2, 3] false) (bounded 2)) = some .operandTooLong ∧
      stopped (exec (.avValidate [1] [1, 2, 3]) (bounded 2)) = some .operandTooLong := by decide

/-- A table word placed by `withFetchWord` is the next step's instruction, as the first after reset. -/
theorem test_step_runs_a_command_word :
    seen (step (State.reset.withFetchWord 8 0x10)) =
      some (0xFFFFFFFF, 0x00, [.bytes [0x01, 0, 0, 0, 0, 0, 0, 0]], []) := by decide
theorem test_step_runs_a_packet_image :
    seen (step (State.reset.withFetchWord 64 0x0200FFFFFFFF0000)) = some (0xFFFFFFFF, 0x00, [.outcome .none], []) := by
  decide
theorem test_step_runs_an_id_word :
    seen (step (State.reset.withFetchWord 8 0x80)) = some (0xFFFFFFFF, 0x00, [.outcome .invalidMessageId], []) := by
  decide

/-! ### Witnesses: a state and operands that meet the hypotheses of each obligation that has any -/

theorem witness_StepRunsTheDecodedInstruction :
    (State.reset.withFetchWord 8 0x03).requests = .command 0x03 {} :: [] ∧
      decode (.command 0x03 {}) = .ok .crcRead := ⟨rfl, rfl⟩

theorem witness_IdleStepHoldsTheState : State.reset.requests = [] := rfl

theorem witness_ReservedCommandCodesAreRefused :
    ({ State.reset with requests := [.command 0xFF ports] } : State).requests = .command 0xFF ports :: [] ∧
      ∀ c ∈ [0x00#8, 0x05#8, 0x0F#8, 0x13#8, 0x1F#8, 0x21#8, 0xFF#8],
        c ∉ [0x01#8, 0x02#8, 0x03#8, 0x04#8, 0x10#8, 0x11#8, 0x12#8, 0x20#8] := ⟨rfl, by decide⟩

theorem witness_SteppingThroughRequestsIsARun :
    ∀ i ∈ [Instr.crcInit, .crcByte 0x31, .crcRead, .pktRsv0407 0x07 [] packetP], i.wf = true := by decide

/-- Both ends of every reserved row. -/
theorem witness_DecodeOfEncodeIsTheInstruction :
    ∀ i ∈ [Instr.avValidate [] [], .pktData 0xFF [] [], .pktRsv0407 0x04 [] [], .pktRsv0407 0x07 [] [],
      .pktRsv080F 0x08 [] [], .pktRsv080F 0x0F [] [], .pktRsv101F 0x10 [] [], .pktRsv101F 0x1F [] [],
      .pktRsv203F 0x20 [] [], .pktRsv203F 0x3F [] [], .pktRsv407F 0x40 [] [], .pktRsv407F 0x7F [] [],
      .pktRsv80FF 0x80 [] [], .pktRsv80FF 0xFF [] []], i.wf = true := by decide

theorem witness_CrcByteAdvancesTheAccumulator : (at' 0 0).acc = 0 := rfl

/-- Both sides of a finite `MAX_LEN`. -/
theorem witness_ComputeIsTheStreamedChecksum :
    fits (bounded 2).params [1, 2, 3] = false ∧ fits (bounded 2).params [1, 2] = true := by decide

theorem witness_ChecksumContinuesAcrossCommands : fits (bounded 2).params [1, 2] = true := by decide

theorem witness_SizePortWidthCannotBeSeen : 24 ≤ 24 ∧ 24 ≤ 32 := by decide

theorem witness_DataPacketCarriesTheCounter :
    fits (bounded 2).params [1, 2, 3] = false ∧ fits (bounded 2).params [1, 2] = true ∧ fits (bounded 0).params [] = true := by
  decide

theorem witness_ResetPacketIgnoresTheCounter : fits (bounded 2).params [0xAA, 0xBB] = true := by decide

theorem witness_SequenceBytesCountPackets :
    (∀ d ∈ List.replicate 256 [0x11#8], fits (bounded 1).params d = true) ∧ (List.replicate 256 [0x11#8]).length = 256 := by
  constructor
  · intro d hd
    rw [List.eq_of_mem_replicate hd]
    decide
  · exact List.length_replicate

theorem witness_FreshSessionNumbersFromZero :
    ∀ d ∈ [[0xAA#8, 0xBB#8], [0xCC#8], []], fits (bounded 2).params d = true := by decide

theorem witness_SessionResetClearsTheCounter : fits (bounded 0).params [] = true := by decide

/-- A code map that is not the default: NONE is not zero and the codes are not contiguous. -/
def otherCodes : ErrCodes := ⟨0x80, 0x00, 0x07, 0xFF, 0x02, 0x10, 0x11⟩

theorem witness_ErrorBytesDecodeByTheCodeMap : defaultErrCodes.wf ∧ otherCodes.wf := by
  constructor <;> intro a b h <;> cases a <;> cases b <;> first | rfl | exact absurd h (by decide)

theorem witness_OutcomeNumbersExtendErrorNumbers : defaultParams.wf := by
  intro a b h
  cases a <;> cases b <;> first | rfl | exact absurd h (by decide)

/-- Lengths 0, 7, 9; and 8 as the bound. -/
theorem witness_WrongLengthIsSizeTooLarge :
    ∀ n ∈ [0, 7, 9], fits (bounded 9).params (List.replicate n 0x02#8) = true ∧ fits (bounded 9).params packetP = true ∧
      (List.replicate n 0x02#8).length ≠ 8 := by decide

theorem witness_WrongIdIsInvalidMessageId :
    ∀ id ∈ [0x00#8, 0x01#8, 0x03#8, 0x04#8, 0xFF#8], fits (bounded 8).params (id :: List.replicate 7 0x00#8) = true ∧
      fits (bounded 8).params packetP = true ∧ (List.replicate 7 0x00#8).length = 7 ∧ id ≠ 0x02#8 := by decide

theorem witness_UnknownErrorByteIsAnOutcome :
    (∀ e ∈ [0x07#8, 0xFF#8], fits (bounded 8).params (0x02#8 :: e :: List.replicate 6 0x00#8) = true ∧
      fits (bounded 8).params packetP = true ∧ (List.replicate 6 0x00#8).length = 6) ∧
    ∀ e ∈ [0x07#8, 0xFF#8], ∀ n : DeviceError, errByte (bounded 8).params.errCode n ≠ e := by
  refine ⟨by decide, fun e he n => ?_⟩
  cases n <;> revert e <;> decide

theorem witness_DeviceErrorIsSurfacedVerbatim :
    (bounded 8).params.errCode.wf ∧ DeviceError.enterDfuNotRequested ≠ .none ∧ (List.replicate 6 0xDE#8).length = 6 ∧
      fits (bounded 8).params (0x02#8 :: errByte (bounded 8).params.errCode .enterDfuNotRequested :: List.replicate 6 0xDE#8) =
        true ∧
      fits (bounded 8).params [] = true := ⟨witness_ErrorBytesDecodeByTheCodeMap.1, by decide, rfl, by decide, by decide⟩

/-- A reply that ends early, and both sides of the comparison. -/
theorem witness_ChecksumDecidesTheLastStep :
    (∃ t, exec (.avValidate [] packetP) (bounded 8) = .next t) ∧ reachesStep5 (bounded 8).params [] = false ∧
    fits (bounded 8).params [0x02, 0x00, 0xBA, 0x28, 0xAE, 0x5C, 0, 0] = true ∧ fits (bounded 8).params packetP = true ∧
    (crc (bounded 8).params.crcTable [0x01, 0xCC]).toNat = 0xBA * 2 ^ 24 + 0x28 * 2 ^ 16 + 0xAE * 2 ^ 8 + 0x5C ∧
    (crc (bounded 8).params.crcTable [0x01, 0xCC]).toNat ≠ 0xBA * 2 ^ 24 + 0x28 * 2 ^ 16 + 0xAE * 2 ^ 8 + 0x5D :=
  ⟨⟨_, rfl⟩, by decide, by decide, by decide, by decide, by decide⟩

theorem witness_ConformingAckOfABuiltPacketIsAccepted :
    ∃ t, exec (.frData [1, 2, 3, 4, 5, 6] false) (bounded 8) = .next t ∧
      t.results = (bounded 8).results ++ [.bytes [0x03, 0x00, 1, 2, 3, 4, 5, 6]] ∧
      fits (bounded 8).params [0x03, 0x00, 1, 2, 3, 4, 5, 6] = true ∧
      fits (bounded 8).params (List.replicate 8 0x00#8) = true ∧
      (0xDEADBEEF#32 : Word) ≠ crc (bounded 8).params.crcTable [0x00, 1, 2, 3, 4, 5, 6] :=
  ⟨_, rfl, rfl, by decide, by decide, by decide⟩

/-- An early reply and one that reaches step 5. -/
theorem witness_ReservedBytesAndPreviousIdAreIgnored :
    (∃ t, exec (.avValidate [0x02, 0x07, 0xDE, 0xAD, 0xBE, 0xEF, 0, 0] [0x03]) State.reset = .next t) ∧
      ∃ t, exec (.avValidate [0x02, 0x00, 0xFF, 0xFF, 0xFF, 0xFF, 0xA5, 0x5A] [0x03]) State.reset = .next t :=
  ⟨⟨_, rfl⟩, ⟨_, rfl⟩⟩

theorem witness_EmptyPreviousIsRefusedOnlyAtTheLastStep :
    fits (bounded 8).params [0x02, 0x00, 0xFF, 0xFF, 0xFF, 0xFF, 0, 0] = true ∧
      reachesStep5 (bounded 8).params [0x02, 0x00, 0xFF, 0xFF, 0xFF, 0xFF, 0, 0] = true ∧
      reachesStep5 (bounded 8).params [0x02, 0x02, 0xFF, 0xFF, 0xFF, 0xFF, 0, 0] = false := by decide

theorem witness_OutcomeIsThatOfTheFirstCause :
    fits (bounded 8).params [0x02, 0x00, 0xFF, 0xFF, 0xFF, 0xFF, 0, 0] = true ∧ fits (bounded 8).params [0x03] = true ∧
      (reachesStep5 (bounded 8).params [0x02, 0x00, 0xFF, 0xFF, 0xFF, 0xFF, 0, 0] = true → [0x03#8] ≠ []) ∧
      fits (bounded 8).params [] = true ∧ (reachesStep5 (bounded 8).params [] = true → ([] : Bytes) ≠ []) := by decide

/-- An early outcome is an answer on every state of the instance. -/
theorem answers_early {p : Params} {ack prev : Bytes} {o : HostOutcome} (ha : fits p ack = true) (hp : fits p prev = true)
    (ho : earlyOutcome p.errCode ack = some o) : answers p ack prev o := by
  rintro s rfl
  exact ⟨_, validateReply_early ha hp ho, rfl⟩

/-- The one-byte previous packet has the empty tail: its checksum is all ones on every table. -/
theorem answers_last : answers defaultParams [0x02, 0x00, 0xFF, 0xFF, 0xFF, 0xFF, 0, 0] [0x03] .none ∧
    answers defaultParams [0x02, 0x00, 0, 0, 0, 0, 0, 0] [0x03] .crcMismatch := by
  constructor <;> intro s hs <;> refine ⟨_, (validateReply_last ?_ ?_ ?_).trans (checkPrevious_cons _ _ _ _), ?_⟩
  all_goals rw [hs]
  all_goals first | decide | rfl

/-- The premises, and for each clause about a given answer a reply that has it. -/
theorem witness_EveryOutcomeIsReachableByItsRoads :
    (bounded 8).params.errCode.wf ∧ fits (bounded 8).params (List.replicate 8 0x00#8) = true ∧
      answers defaultParams [0x02, 0xFF, 0, 0, 0, 0, 0, 0] packetP .unknownErrorCode ∧
      answers defaultParams [0x02, 0x03, 0, 0, 0, 0, 0, 0] packetP .outOfSequence ∧
      answers defaultParams [0x02, 0x00, 0xFF, 0xFF, 0xFF, 0xFF, 0, 0] [0x03] .none ∧
      answers defaultParams [0x02, 0x00, 0, 0, 0, 0, 0, 0] [0x03] .crcMismatch :=
  ⟨witness_ErrorBytesDecodeByTheCodeMap.1, by decide, answers_early (by decide) (by decide) (by decide),
    answers_early (by decide) (by decide) (by decide), answers_last.1, answers_last.2⟩

theorem witness_OutcomeClassFollowsTheReply :
    defaultParams.errCode.wf ∧ answers defaultParams [] packetP .sizeTooLarge ∧
      answers defaultParams [0x02, 0x05, 0, 0, 0, 0, 0, 0] packetP .sizeTooLarge ∧
      answers defaultParams [0x02, 0x07, 0, 0, 0, 0, 0, 0] packetP .unknownErrorCode ∧
      answers defaultParams [0x02, 0x00, 0xFF, 0xFF, 0xFF, 0xFF, 0, 0] [0x03] .none ∧
      answers defaultParams [0x02, 0x00, 0, 0, 0, 0, 0, 0] [0x03] .crcMismatch :=
  ⟨witness_ErrorBytesDecodeByTheCodeMap.1, answers_early (by decide) (by decide) (by decide),
    answers_early (by decide) (by decide) (by decide), answers_early (by decide) (by decide) (by decide), answers_last.1,
    answers_last.2⟩

/-- Each clause, at 8 bytes and at another length; the reserved rows at an end of their range. -/
theorem witness_PacketsThatAreNoAckAreNotAccepted :
    fits (bounded 8).params packetP = true ∧ fits (bounded 8).params (List.replicate 8 0x00#8) = true ∧
      fits (bounded 8).params (0x03#8 :: 0x00#8 :: List.replicate 6 0x00#8) = true ∧
      fits (bounded 8).params [0x03, 0x00] = true ∧
      fits (bounded 8).params (0x00#8 :: List.replicate 7 0x00#8) = true ∧ fits (bounded 8).params [0x00] = true ∧
      (Instr.pktRsv407F 0x7F (List.replicate 7 0x00#8) packetP).wf = true ∧
      fits (bounded 8).params (0x7F#8 :: List.replicate 7 0x00#8) = true ∧
      (Instr.pktRsv80FF 0x80 [] packetP).wf = true ∧ fits (bounded 8).params [0x80] = true := by decide

theorem witness_AckPacketIsDecidedByItsFields :
    (bounded 8).params.errCode.wf ∧ fits (bounded 8).params (List.replicate 8 0x00#8) = true ∧
      fits (bounded 8).params (0x03#8 :: [0x01, 0xCC]) = true ∧
      (DeviceError.internalError ≠ .none ∧ 0x06#8 = errByte (bounded 8).params.errCode .internalError) ∧
      (∀ n : DeviceError, 0x07#8 ≠ errByte (bounded 8).params.errCode n) ∧
      0x00#8 = (bounded 8).params.errCode.none ∧
      0xBA28AE5C#32 = crc (bounded 8).params.crcTable [0x01, 0xCC] ∧
      0xBA28AE5D#32 ≠ crc (bounded 8).params.crcTable [0x01, 0xCC] :=
  ⟨witness_ErrorBytesDecodeByTheCodeMap.1, by decide, by decide, by decide, fun n => by cases n <;> decide, by decide,
    by decide, by decide⟩

/-- An admitted instruction, and one refused for each of the two reasons. -/
theorem witness_OnlyTheListedRequestsAreRefused :
    admitted (bounded 2).params (.crcCompute [1, 2]) = true ∧ admitted (bounded 2).params (.crcCompute [1, 2, 3]) = false ∧
      admitted (bounded 8).params (.pktAck 0x00 0 0 0 []) = false := by decide

/-- An instruction that writes neither register, and one that returns CRC_MISMATCH. -/
theorem witness_FrameOfEveryInstruction :
    (∃ t, exec .crcRead State.reset = .next t) ∧ writesAcc State.reset.params .crcRead = false ∧
      writesSeq .crcRead = false ∧
      ∃ t, exec (.avValidate [0x02, 0x00, 0, 0, 0, 0, 0, 0] [0x03]) State.reset = .next t :=
  ⟨⟨_, rfl⟩, by decide, by decide, ⟨_, rfl⟩⟩

/-- A run that answers a next state and one that is refused. -/
theorem witness_RunsThatDoNotReadAccCannotSeeIt :
    (∀ i ∈ [Instr.frSrst, .frData [0xAA] false, .avValidate [] packetP], readsAcc i = false) ∧
      (∃ t, execAll [.frSrst, .frData [0xAA] false, .avValidate [] packetP] State.reset = .next t) ∧
      readsAcc (.avValidate [0x02, 0x00, 0, 0, 0, 0, 0, 0] []) = false ∧
      execAll [.avValidate [0x02, 0x00, 0, 0, 0, 0, 0, 0] []] State.reset = .refused .emptyPrevious :=
  ⟨by decide, ⟨_, rfl⟩, rfl, rfl⟩

/-- One that writes SEQ and one that does not. -/
theorem witness_OnlyDataPacketsReadTheCounter :
    readsSeq (.frData [0xAA] true) = false ∧ (∃ t, exec (.frData [0xAA] true) State.reset = .next t) ∧
      writesSeq (.frData [0xAA] true) = true ∧
      readsSeq .crcRead = false ∧ (∃ t, exec .crcRead State.reset = .next t) ∧ writesSeq .crcRead = false :=
  ⟨rfl, ⟨_, rfl⟩, rfl, rfl, ⟨_, rfl⟩, rfl⟩

/-- The empty buffer and a one-byte previous packet, which read no entry. -/
theorem witness_OnlyTheChecksumReadsTheTable :
    readsTable State.reset.params (.crcCompute []) = false ∧ (∃ t, exec (.crcCompute []) State.reset = .next t) ∧
      readsTable State.reset.params (.avValidate [0x02, 0x00, 0, 0, 0, 0, 0, 0] [0x03]) = false ∧
      ∃ t, exec (.avValidate [0x02, 0x00, 0, 0, 0, 0, 0, 0] [0x03]) State.reset = .next t :=
  ⟨by decide, ⟨_, rfl⟩, by decide, ⟨_, rfl⟩⟩

theorem witness_IdempotentInstructionsRepeat :
    idempotent .frSrst = true ∧ (∃ t, exec .frSrst (at' 0x0376E6E7 0x9C) = .next t) ∧
      idempotent (.avValidate [0x02, 0x00, 0, 0, 0, 0, 0, 0] [0x03]) = true ∧
      ∃ t, exec (.avValidate [0x02, 0x00, 0, 0, 0, 0, 0, 0] [0x03]) State.reset = .next t :=
  ⟨rfl, ⟨_, rfl⟩, rfl, ⟨_, rfl⟩⟩

/-- A state that has carried a packet, a mismatch and its record (spec/95 P7), with a request to come. -/
def carried : State :=
  { State.reset with
    acc := 0xFFFFFFFF
    seq := 0x01
    requests := [.reply [0x02, 0x00, 0xFF, 0xFF, 0xFF, 0xFE, 0x00, 0x00] [0x03]]
    results := [.bytes [0x03, 0x00], .outcome .crcMismatch]
    diags := [⟨0xFFFFFFFF, 0xFFFFFFFE, [0x02, 0x00, 0xFF, 0xFF, 0xFF, 0xFE, 0x00, 0x00], [0x03]⟩] }

theorem witness_StepKeepsThePortsSound : portsSound carried ∧ ∃ t, step carried = .next t := by
  refine ⟨⟨?_, by decide, ?_⟩, ⟨_, rfl⟩⟩
  · intro d hd
    obtain rfl : d = ⟨0xFFFFFFFF, 0xFFFFFFFE, [0x02, 0x00, 0xFF, 0xFF, 0xFF, 0xFE, 0x00, 0x00], [0x03]⟩ := by
      simpa [carried] using hd
    exact ⟨by decide, by decide, by decide, by decide, by decide⟩
  · intro out hout
    obtain rfl : out = [0x03, 0x00] := by simpa [carried] using hout
    exact .inr ⟨rfl, by decide⟩

/-- A device that conforms, on an instance whose bound the packets just meet. -/
def device : Bytes → Bytes := fun packet => conformingAck (bounded 8).params packet 0xA5 0x5A

theorem witness_TransferWithAConformingDeviceIsDone :
    (∀ m, (bounded 8).params.maxLen = some m → 8 ≤ m ∧ ∀ c ∈ [List.replicate 6 0x11#8, []], c.length + 2 ≤ m) ∧
      ∀ packet, packet ≠ [] → ∃ r0 r1, device packet = conformingAck (bounded 8).params packet r0 r1 := by
  refine ⟨fun m h => ?_, fun packet _ => ⟨0xA5, 0x5A, rfl⟩⟩
  obtain rfl : 8 = m := Option.some.inj h
  decide

/-- START and a chunk on an instance that admits 8 bytes, the packet just within MAX_LEN and one byte beyond it; a reply that is
accepted, one that ends before step 5 and one that does not match. -/
theorem witness_OnlySuccessAdvancesATransfer :
    startPacket 9 0x0376E6E7 = [0x01, 0x00, 0x00, 0x09, 0x03, 0x76, 0xE6, 0xE7] ∧
      (fits (bounded 8).params (startPacket 9 0x0376E6E7) &&
        fits (bounded 8).params (device (startPacket 9 0x0376E6E7))) = true ∧
      (fits (bounded 8).params (0x03#8 :: 0x00#8 :: [List.replicate 6 0x11#8].getD 0 []) &&
        fits (bounded 8).params (device (0x03#8 :: 0x00#8 :: [List.replicate 6 0x11#8].getD 0 []))) = true ∧
      (fits (bounded 8).params (0x03#8 :: 0x00#8 :: [List.replicate 7 0x11#8].getD 0 []) &&
        fits (bounded 8).params (device (0x03#8 :: 0x00#8 :: [List.replicate 7 0x11#8].getD 0 []))) = false ∧
      (reachesStep5 (bounded 8).params (device packetP) = true ∧
        readWord (device packetP) 2 = crc (bounded 8).params.crcTable packetP.tail) ∧
      ¬reachesStep5 (bounded 8).params [] = true ∧
      reachesStep5 (bounded 8).params [0x02, 0x00, 0xBA, 0x28, 0xAE, 0x5D, 0x00, 0x00] = true ∧
      readWord [0x02, 0x00, 0xBA, 0x28, 0xAE, 0x5D, 0x00, 0x00] 2 ≠ crc (bounded 8).params.crcTable packetP.tail := by
  decide

/-- A round that goes on, one that ends the transfer well, and two that fail it, on the bytes of the reply alone (R112). -/
theorem test_driveOnce :
    (driveOnce device 9 0x0376E6E7 [[0xAA]] (.sendStart, State.reset)).map Prod.fst = some (.sendData 0) ∧
      (driveOnce device 9 0x0376E6E7 [[0xAA]] (.sendData 0, State.reset)).map Prod.fst = some .done ∧
      (driveOnce (fun _ => []) 9 0x0376E6E7 [[0xAA]] (.sendStart, State.reset)).map Prod.fst =
        some (.failed .sizeTooLarge) ∧
      (driveOnce (fun _ => [0x02, 0x00, 0, 0, 0, 0, 0, 0]) 9 0x0376E6E7 [[0xAA]] (.sendData 0, State.reset)).map Prod.fst =
        some (.failed .crcMismatch) := by decide

end Sys2Proof.Tests
end

section
/-! SUPPORT. The checksum step and fold, each read once: the step with its index taken on bytes and on natural numbers,
the fold one byte at a time, and the empty buffer, which fits every bound. -/

namespace Sys2Proof.Machine

/-- The index of `crc_step` needs no 32-bit detour: only the top byte of the accumulator meets the input byte (R62). -/
theorem crcStep_eq (table : Vector Word 256) (acc : Word) (b : Byte) :
    crcStep table acc b = (acc <<< 8) ^^^ table[((acc >>> 24).setWidth 8 ^^^ b).toNat] := by
  have hidx : ((acc >>> 24) ^^^ b.setWidth 32).setWidth 8 = (acc >>> 24).setWidth 8 ^^^ b := by
    rw [BitVec.setWidth_xor, BitVec.setWidth_setWidth_of_le b (by decide), BitVec.setWidth_eq]
  simp only [crcStep, hidx]

/-- With both operands zero the step is entry 0 of the table (R65). -/
theorem crcStep_zero_zero (table : Vector Word 256) : crcStep table 0 0 = table[0] := by
  simp [crcStep_eq]

/-- The index of `crc_step` on natural numbers, where the mask keeps the low byte (R62). -/
theorem toNat_crcIndex (acc : Word) (b : Byte) :
    ((acc >>> 24).setWidth 8 ^^^ b).toNat = ((acc.toNat >>> 24) ^^^ b.toNat) &&& 0xFF := by
  have hb : b.toNat % 2 ^ 8 = b.toNat := Nat.mod_eq_of_lt b.isLt
  have hmask : ∀ n : Nat, n &&& 0xFF = n % 2 ^ 8 := fun n => Nat.and_two_pow_sub_one_eq_mod n 8
  rw [hmask, Nat.xor_mod_two_pow, hb, BitVec.toNat_xor, BitVec.toNat_setWidth, BitVec.toNat_ushiftRight]

/-- Shifting in the 32-bit word is shifting the natural number and masking last (R62). -/
theorem toNat_shiftLeft_xor (acc w : Word) :
    ((acc <<< 8) ^^^ w).toNat = ((acc.toNat <<< 8) ^^^ w.toNat) &&& 0xFFFFFFFF := by
  have hw : w.toNat % 2 ^ 32 = w.toNat := Nat.mod_eq_of_lt w.isLt
  have hmask : ∀ n : Nat, n &&& 0xFFFFFFFF = n % 2 ^ 32 := fun n => Nat.and_two_pow_sub_one_eq_mod n 32
  rw [hmask, Nat.xor_mod_two_pow, hw, BitVec.toNat_xor, BitVec.toNat_shiftLeft]

/-- A byte always selects an entry, so the default of `getD` is never taken. -/
theorem getD_toList_crcTable (table : Vector Word 256) (i : Byte) : table.toList.getD i.toNat 0 = table[i.toNat] := by
  have hi : i.toNat < table.toList.length := by simpa using i.isLt
  rw [List.getD_eq_getElem _ _ hi, Vector.getElem_toList]

@[simp] theorem crcFrom_nil (table : Vector Word 256) (acc : Word) : crcFrom table acc [] = acc := rfl

@[simp] theorem crcFrom_cons (table : Vector Word 256) (acc : Word) (b : Byte) (rest : Bytes) :
    crcFrom table acc (b :: rest) = crcFrom table (crcStep table acc b) rest := rfl

/-- `crc(buf)` starts from 0xFFFFFFFF (R63). -/
theorem crc_eq_crcFrom (table : Vector Word 256) (buf : Bytes) : crc table buf = crcFrom table 0xFFFFFFFF#32 buf := rfl

@[simp] theorem fits_nil (p : Params) : fits p [] = true := (fits_iff p []).2 fun _ _ => Nat.zero_le _

end Sys2Proof.Machine
end

section
/-! SUPPORT. What each command of the Checksum Engine does, as one equation for `exec`; and a run of commands, one command
at a time and over a whole stream of CRC.BYTEs. -/

namespace Sys2Proof.Machine

theorem exec_crcInit (s : State) :
    exec .crcInit s = .next { s with acc := 0xFFFFFFFF#32, results := s.results ++ [.nothing] } := rfl

theorem exec_crcByte (b : Byte) (s : State) :
    exec (.crcByte b) s =
      .next { s with acc := crcStep s.params.crcTable s.acc b, results := s.results ++ [.nothing] } := rfl

theorem exec_crcRead (s : State) : exec .crcRead s = .next { s with results := s.results ++ [.word s.acc] } := rfl

theorem exec_crcCompute_of_fits {s : State} {buf : Bytes} (h : fits s.params buf = true) :
    exec (.crcCompute buf) s =
      .next { s with
        acc := crcFrom s.params.crcTable 0xFFFFFFFF#32 buf
        results := s.results ++ [.word (crcFrom s.params.crcTable 0xFFFFFFFF#32 buf)] } := by
  simp only [exec, execCrcCompute, h, if_true, crc_eq_crcFrom, State.setAcc, State.deliver]

theorem exec_crcCompute_of_not_fits {s : State} {buf : Bytes} (h : fits s.params buf = false) :
    exec (.crcCompute buf) s = .refused .operandTooLong := by
  simp only [exec, execCrcCompute, h, Bool.false_eq_true, if_false]

@[simp] theorem execAll_nil (s : State) : execAll [] s = .next s := rfl

/-- A run whose first instruction completes goes on from the state it left (R39). -/
theorem execAll_cons_of_next {i : Instr} {is : List Instr} {s t : State} (h : exec i s = .next t) :
    execAll (i :: is) s = execAll is t := by
  simp only [execAll, h]

/-- A stream of CRC.BYTEs folds the step over its bytes and answers nothing for each; the run then goes on with what
follows (R63, R65). -/
theorem execAll_crcBytes_append (buf : Bytes) (is : List Instr) (s : State) :
    execAll (buf.map Instr.crcByte ++ is) s =
      execAll is { s with
        acc := crcFrom s.params.crcTable s.acc buf
        results := s.results ++ List.replicate buf.length .nothing } := by
  induction buf generalizing s with
  | nil => simp
  | cons b rest ih =>
    rw [List.map_cons, List.cons_append, execAll_cons_of_next (exec_crcByte b s), ih]
    simp [List.replicate_succ]

end Sys2Proof.Machine
end

section
/-! PROOFS. The statements about the Checksum Engine. -/

namespace Sys2Proof.Proofs

open Sys2Proof.Machine

/-- Settles O10: index, entry and final mask are carried to natural numbers one after another. -/
theorem crcStepIsTheIntegerFormula : Obligations.CrcStepIsTheIntegerFormula := by
  intro table acc b
  rw [crcStep_eq, toNat_shiftLeft_xor, ← toNat_crcIndex, getD_toList_crcTable]

/-- Settles O11. -/
theorem checksumIsTheFoldOfTheStep : Obligations.ChecksumIsTheFoldOfTheStep := by
  intro table buf
  exact ⟨crc_eq_crcFrom table buf, fun acc => ⟨crcFrom_nil table acc, crcFrom_cons table acc⟩⟩

/-- Settles O12. -/
theorem crcInitSetsTheAccumulator : Obligations.CrcInitSetsTheAccumulator :=
  ⟨fun _ => rfl, exec_crcInit⟩

/-- Settles O13: the step in byte form, and its value where both operands are zero. -/
theorem crcByteAdvancesTheAccumulator : Obligations.CrcByteAdvancesTheAccumulator := by
  refine ⟨fun _ => rfl, fun s b => ?_, fun s hacc => ?_⟩
  · rw [exec_crcByte, crcStep_eq]
  · rw [exec_crcByte, hacc, crcStep_zero_zero]

/-- Settles O14. -/
theorem crcReadReturnsTheAccumulator : Obligations.CrcReadReturnsTheAccumulator :=
  ⟨fun _ => rfl, exec_crcRead⟩

/-- Settles O15: CRC.COMPUTE by its two cases, and the streamed sequence by running CRC.INIT, the whole stream of
CRC.BYTEs, then CRC.READ. -/
theorem computeIsTheStreamedChecksum : Obligations.ComputeIsTheStreamedChecksum := by
  refine ⟨fun _ => rfl, fun s buf => ⟨exec_crcCompute_of_not_fits, exec_crcCompute_of_fits, ?_⟩⟩
  rw [execAll_cons_of_next (exec_crcInit s), execAll_crcBytes_append, execAll_cons_of_next (exec_crcRead _),
    execAll_nil]
  simp [List.replicate_succ]

/-- Settles O16: the empty buffer fits every bound and its fold takes no step. -/
theorem emptyBufferHasChecksumAllOnes : Obligations.EmptyBufferHasChecksumAllOnes := by
  intro s
  rw [exec_crcCompute_of_fits (fits_nil s.params), crcFrom_nil]

end Sys2Proof.Proofs
end

section
/-! SUPPORT. The bytes of the packets the Packet Codec builds: bytes and counters modulo 256, the two big-endian fields
written out, and a START packet determined by its fields. -/

namespace Sys2Proof.Machine

/-- A byte keeps a number modulo 256 alone (R10). -/
theorem ofNat_mod_256 (n : Nat) : BitVec.ofNat 8 (n % 256) = BitVec.ofNat 8 n :=
  BitVec.eq_of_toNat_eq (by simp)

/-- Counting on from a byte is addition of bytes, which wraps at 256 (R82). -/
theorem ofNat_toNat_add_mod_256 (n : Byte) (k : Nat) :
    BitVec.ofNat 8 ((n.toNat + k) % 256) = n + BitVec.ofNat 8 k := by
  rw [ofNat_mod_256, BitVec.ofNat_add, BitVec.ofNat_toNat, BitVec.setWidth_eq]

/-- `BE24` byte by byte, from the most significant (R10). -/
theorem be24Bytes_eq (v : BitVec 24) :
    be24Bytes v =
      [BitVec.ofNat 8 (v.toNat / 65536), BitVec.ofNat 8 (v.toNat / 256), BitVec.ofNat 8 v.toNat] := by
  simp [be24Bytes, beBytes]

/-- `BE32` byte by byte, from the most significant (R10). -/
theorem be32Bytes_eq (v : Word) :
    be32Bytes v = [v.extractLsb' 24 8, v.extractLsb' 16 8, v.extractLsb' 8 8, v.extractLsb' 0 8] := by
  simp [be32Bytes, beBytes, BitVec.extractLsb', Nat.shiftRight_eq_div_pow]

/-- A START packet is determined by its two fields, since each is read back from it (R44). -/
theorem startPacket_inj {a b : BitVec 24} {c d : Word} :
    startPacket a c = startPacket b d ↔ a = b ∧ c = d := by
  constructor
  · intro h
    have hsize : a.toNat = b.toNat := by
      rw [← memRead_startPacket_size a c, h, memRead_startPacket_size]
    have hcrc : c = d := by
      rw [← readWord_startPacket_crc a c, h, readWord_startPacket_crc]
    exact ⟨BitVec.eq_of_toNat_eq hsize, hcrc⟩
  · rintro ⟨rfl, rfl⟩
    rfl

/-- Two sizes have the same size field exactly when they agree modulo 2^24 (R78). -/
theorem ofNat_24_eq_iff (n m : Nat) : BitVec.ofNat 24 n = BitVec.ofNat 24 m ↔ n % 2 ^ 24 = m % 2 ^ 24 := by
  rw [← BitVec.toNat_inj, BitVec.toNat_ofNat, BitVec.toNat_ofNat]

end Sys2Proof.Machine
end

section
/-! SUPPORT. What each command of the Packet Codec does, as one equation for `exec`; and a run of FR.DATAs without reset. -/

namespace Sys2Proof.Machine

theorem exec_frStart (n : Nat) (c : Word) (s : State) :
    exec (.frStart n c) s =
      .next { s with results := s.results ++ [.bytes (startPacket (BitVec.ofNat 24 n) c)] } := rfl

/-- FR.START answers the same exactly when it builds the same packet. -/
theorem exec_frStart_eq_iff (n m : Nat) (c d : Word) (s : State) :
    exec (.frStart n c) s = exec (.frStart m d) s ↔
      startPacket (BitVec.ofNat 24 n) c = startPacket (BitVec.ofNat 24 m) d := by
  simp [exec_frStart]

theorem exec_frData_of_not_fits {s : State} {payload : Bytes} (reset : Bool) (h : fits s.params payload = false) :
    exec (.frData payload reset) s = .refused .operandTooLong := by
  simp only [exec, execFrData, h, Bool.false_eq_true, if_false]

theorem exec_frData_reset {s : State} {payload : Bytes} (h : fits s.params payload = true) :
    exec (.frData payload true) s =
      .next { s with seq := 0x01#8, results := s.results ++ [.bytes (0x03#8 :: 0x00#8 :: payload)] } := by
  simp only [exec, execFrData, h, if_true]
  rfl

theorem exec_frData_count {s : State} {payload : Bytes} (h : fits s.params payload = true) :
    exec (.frData payload false) s =
      .next { s with seq := s.seq + 1#8, results := s.results ++ [.bytes (0x03#8 :: s.seq :: payload)] } := by
  simp only [exec, execFrData, h, if_true]
  rfl

theorem exec_frSrst (s : State) :
    exec .frSrst s = .next { s with seq := 0x00#8, results := s.results ++ [.nothing] } := rfl

/-- A run of FR.DATAs without reset adds its length to SEQ and numbers its packets from SEQ on, as bytes (R82). -/
theorem execAll_frDatas (payloads : List Bytes) (s : State) (h : ∀ d ∈ payloads, fits s.params d = true) :
    execAll (payloads.map (fun d => .frData d false)) s =
      .next { s with
        seq := s.seq + BitVec.ofNat 8 payloads.length
        results := s.results ++
          payloads.mapIdx (fun k d => .bytes (0x03#8 :: (s.seq + BitVec.ofNat 8 k) :: d)) } := by
  induction payloads generalizing s with
  | nil => simp
  | cons d rest ih =>
    obtain ⟨hd, hrest⟩ := List.forall_mem_cons.1 h
    have hcount : ∀ k : Nat, s.seq + 1#8 + BitVec.ofNat 8 k = s.seq + BitVec.ofNat 8 (k + 1) := fun k => by
      rw [Nat.add_comm k 1, BitVec.ofNat_add, ← BitVec.add_assoc]
    rw [List.map_cons, execAll_cons_of_next (exec_frData_count hd), ih]
    · simp [hcount, List.mapIdx_cons]
    · exact hrest

end Sys2Proof.Machine
end

section
/-! PROOFS. The statements about the Packet Codec. -/

namespace Sys2Proof.Proofs

open Sys2Proof.Machine

/-- Settles O21: the packet's two fields written out byte by byte. -/
theorem startPacketHasEveryByteInPlace : Obligations.StartPacketHasEveryByteInPlace := by
  refine ⟨fun _ => rfl, fun s n c => ?_⟩
  rw [exec_frStart, startPacket, be24Bytes_eq, be32Bytes_eq, BitVec.toNat_ofNat, ofNat_mod_256, ofNat_mod_256]
  rfl

/-- Settles O22: the size field reads back as the size modulo 2^24, and the packet determines both fields. -/
theorem sizeIsTruncatedAndNothingElse : Obligations.SizeIsTruncatedAndNothingElse := by
  intro s n m c d
  refine ⟨⟨_, _, exec_frStart n c s, rfl, ?_⟩, ?_⟩
  · rw [memRead_startPacket_size, BitVec.toNat_ofNat]
  · rw [exec_frStart_eq_iff, startPacket_inj, ofNat_24_eq_iff]

/-- Settles O27: the run's counters taken as numbers modulo 256; 256 is 0 as a byte. -/
theorem sequenceBytesCountPackets : Obligations.SequenceBytesCountPackets := by
  intro s payloads h
  refine ⟨?_, fun hlen => ⟨_, execAll_frDatas payloads s h, ?_⟩⟩
  · simp only [ofNat_toNat_add_mod_256]
    exact execAll_frDatas payloads s h
  · have hwrap : BitVec.ofNat 8 256 = 0#8 := by decide
    rw [hlen, hwrap, BitVec.add_zero]

/-- Settles O25: FR.DATA by its three cases. -/
theorem dataPacketCarriesTheCounter : Obligations.DataPacketCarriesTheCounter := by
  refine ⟨fun _ => rfl, fun s payload reset => ⟨exec_frData_of_not_fits reset, fun hfits => ⟨?_, ?_⟩⟩⟩
  · rintro rfl
    exact exec_frData_reset hfits
  · rintro rfl
    rw [ofNat_toNat_add_mod_256]
    exact exec_frData_count hfits

/-- Settles O26: the counter is overwritten, and the equation of FR.DATA with reset has no other place for it. -/
theorem resetPacketIgnoresTheCounter : Obligations.ResetPacketIgnoresTheCounter := by
  intro s payload n h
  have hn : fits { s with seq := n }.params payload = true := h
  exact ⟨(exec_frData_reset hn).trans (exec_frData_reset h).symm, exec_frData_reset h⟩

/-- Settles O29: FR.SRST, then FR.DATA counting from the 0 it left. -/
theorem sessionResetClearsTheCounter : Obligations.SessionResetClearsTheCounter := by
  refine ⟨fun _ => rfl, exec_frSrst, fun s payload h => ⟨?_, exec_frData_reset h⟩⟩
  rw [execAll_cons_of_next (exec_frSrst s), execAll_cons_of_next (exec_frData_count ?_), execAll_nil]
  · simp
  · exact h

end Sys2Proof.Proofs
end

section
/-! SUPPORT. The decoder of error bytes as the inverse of the code map, the outcomes of steps 1 to 4 one condition at a
time, and when the last step is reached. -/

namespace Sys2Proof.Machine

theorem mem_deviceErrors (e : DeviceError) : e ∈ deviceErrors := by
  cases e <;> decide

/-- A byte decodes to no error exactly when it is the code of none (R47). -/
theorem decodeErr_eq_none_iff (c : ErrCodes) (b : Byte) : decodeErr c b = none ↔ ∀ e, errByte c e ≠ b := by
  simp [decodeErr, List.find?_eq_none, mem_deviceErrors]

/-- On an injective code map the decoder inverts the encoder (R47). -/
theorem decodeErr_errByte {c : ErrCodes} (hc : c.wf) (e : DeviceError) : decodeErr c (errByte c e) = some e := by
  cases h : decodeErr c (errByte c e) with
  | none => exact absurd rfl ((decodeErr_eq_none_iff c _).1 h e)
  | some n => rw [hc n e (errByte_of_decodeErr h)]

/-- Seven codes cannot cover eight bytes, so every code map leaves a byte unknown. -/
theorem exists_decodeErr_eq_none (c : ErrCodes) : ∃ b, decodeErr c b = none := by
  by_contra! h
  have hnodup : ((List.range 8).map (BitVec.ofNat 8)).Nodup := by decide
  have hsub : (List.range 8).map (BitVec.ofNat 8) ⊆ deviceErrors.map (errByte c) := by
    intro b _
    obtain ⟨e, he⟩ := Option.ne_none_iff_exists'.1 (h b)
    exact List.mem_map.2 ⟨e, mem_deviceErrors e, errByte_of_decodeErr he⟩
  have hlen := (hnodup.subperm hsub).length_le
  simp [deviceErrors] at hlen

theorem outcomeOf_injective : Function.Injective outcomeOf := by
  intro a b h
  cases a <;> cases b <;> simp_all [outcomeOf]

theorem outcomeOf_ne_crcMismatch (n : DeviceError) : outcomeOf n ≠ .crcMismatch := by
  cases n <;> decide

theorem outcomeOf_ne_unknownErrorCode (n : DeviceError) : outcomeOf n ≠ .unknownErrorCode := by
  cases n <;> decide

/-- Step 1 (R91). -/
theorem earlyOutcome_of_length_ne (c : ErrCodes) {ack : Bytes} (hl : ack.length ≠ 8) :
    earlyOutcome c ack = some .sizeTooLarge :=
  if_pos hl

/-- Step 2 (R92). -/
theorem earlyOutcome_of_id_ne (c : ErrCodes) {ack : Bytes} (hl : ack.length = 8) (hid : ack.getD 0 0 ≠ idAck) :
    earlyOutcome c ack = some .invalidMessageId :=
  (if_neg (not_not.2 hl)).trans (if_pos hid)

/-- Step 3 (R93). -/
theorem earlyOutcome_of_unknown {c : ErrCodes} {ack : Bytes} (hl : ack.length = 8) (hid : ack.getD 0 0 = idAck)
    (he : decodeErr c (ack.getD 1 0) = none) : earlyOutcome c ack = some .unknownErrorCode := by
  simp only [earlyOutcome, fixedLength, hl, hid, he, ne_eq, not_true_eq_false, if_false]

/-- Step 4 (R94). -/
theorem earlyOutcome_of_deviceError {c : ErrCodes} {ack : Bytes} {n : DeviceError} (hl : ack.length = 8)
    (hid : ack.getD 0 0 = idAck) (he : decodeErr c (ack.getD 1 0) = some n) (hn : n ≠ .none) :
    earlyOutcome c ack = some (outcomeOf n) := by
  simp only [earlyOutcome, fixedLength, hl, hid, he, ne_eq, not_true_eq_false, if_false]

/-- Every early outcome has one of the four conditions of steps 1 to 4 (R90). -/
theorem earlyOutcome_eq_some {c : ErrCodes} {ack : Bytes} {o : HostOutcome} (h : earlyOutcome c ack = some o) :
    (ack.length ≠ 8 ∧ o = .sizeTooLarge) ∨
      (ack.length = 8 ∧ ack.getD 0 0 ≠ idAck ∧ o = .invalidMessageId) ∨
      (ack.length = 8 ∧ ack.getD 0 0 = idAck ∧ decodeErr c (ack.getD 1 0) = none ∧ o = .unknownErrorCode) ∨
      (ack.length = 8 ∧ ack.getD 0 0 = idAck ∧
        ∃ n, n ≠ .none ∧ decodeErr c (ack.getD 1 0) = some n ∧ o = outcomeOf n) := by
  by_cases hl : ack.length = 8
  case neg =>
    rw [earlyOutcome_of_length_ne c hl] at h
    exact .inl ⟨hl, (Option.some.inj h).symm⟩
  by_cases hid : ack.getD 0 0 = idAck
  case neg =>
    rw [earlyOutcome_of_id_ne c hl hid] at h
    exact .inr (.inl ⟨hl, hid, (Option.some.inj h).symm⟩)
  cases he : decodeErr c (ack.getD 1 0) with
  | none =>
    rw [earlyOutcome_of_unknown hl hid he] at h
    exact .inr (.inr (.inl ⟨hl, hid, rfl, (Option.some.inj h).symm⟩))
  | some n =>
    have hn : n ≠ .none := by
      rintro rfl
      rw [(earlyOutcome_eq_none_iff c ack).2 ⟨hl, hid, (errByte_of_decodeErr he).symm⟩] at h
      cases h
    rw [earlyOutcome_of_deviceError hl hid he hn] at h
    exact .inr (.inr (.inr ⟨hl, hid, n, hn, rfl, (Option.some.inj h).symm⟩))

/-- The two outcomes of step 5 are no early outcomes (R95). -/
theorem earlyOutcome_ne_last {c : ErrCodes} {ack : Bytes} {o : HostOutcome} (h : earlyOutcome c ack = some o) :
    o ≠ .none ∧ o ≠ .crcMismatch := by
  obtain ⟨-, rfl⟩ | ⟨-, -, rfl⟩ | ⟨-, -, -, rfl⟩ | ⟨-, -, n, hn, -, rfl⟩ := earlyOutcome_eq_some h
  · decide
  · decide
  · decide
  · exact ⟨fun hnone => hn (outcomeOf_injective hnone), outcomeOf_ne_crcMismatch n⟩

/-- UNKNOWN_ERROR_CODE has one road, step 3 (R100). -/
theorem unknown_of_earlyOutcome {c : ErrCodes} {ack : Bytes} (h : earlyOutcome c ack = some .unknownErrorCode) :
    ack.length = 8 ∧ ack.getD 0 0 = idAck ∧ decodeErr c (ack.getD 1 0) = none := by
  obtain ⟨-, ho⟩ | ⟨-, -, ho⟩ | ⟨hl, hid, he, -⟩ | ⟨-, -, n, -, -, ho⟩ := earlyOutcome_eq_some h
  · cases ho
  · cases ho
  · exact ⟨hl, hid, he⟩
  · exact absurd ho.symm (outcomeOf_ne_unknownErrorCode n)

/-- The name of a device error has one road, step 4, unless step 1 or 2 answers the same name (R100). -/
theorem deviceError_of_earlyOutcome {c : ErrCodes} {ack : Bytes} {n : DeviceError}
    (h : earlyOutcome c ack = some (outcomeOf n)) (hsize : n ≠ .sizeTooLarge) (hmsg : n ≠ .invalidMessageId) :
    ack.length = 8 ∧ ack.getD 0 0 = idAck ∧ ack.getD 1 0 = errByte c n := by
  obtain ⟨-, ho⟩ | ⟨-, -, ho⟩ | ⟨-, -, -, ho⟩ | ⟨hl, hid, m, -, he, ho⟩ := earlyOutcome_eq_some h
  · exact absurd (outcomeOf_injective (a₂ := .sizeTooLarge) ho) hsize
  · exact absurd (outcomeOf_injective (a₂ := .invalidMessageId) ho) hmsg
  · exact absurd ho (outcomeOf_ne_unknownErrorCode n)
  · rw [outcomeOf_injective ho]
    exact ⟨hl, hid, (errByte_of_decodeErr he).symm⟩

/-- Step 5 is reached exactly when steps 1 to 4 reach no outcome (R90). -/
theorem reachesStep5_iff (p : Params) (ack : Bytes) :
    reachesStep5 p ack = true ↔ earlyOutcome p.errCode ack = none := by
  simp [reachesStep5, earlyOutcome_eq_none_iff, idAck, and_assoc]

/-- What is no longer than an operand that fits, fits. -/
theorem fits_of_length_le {p : Params} {s t : Bytes} (h : fits p s = true) (hl : t.length ≤ s.length) :
    fits p t = true :=
  (fits_iff p t).2 fun m hm => hl.trans ((fits_iff p s).1 h m hm)

/-- The checksum field of an ACK given byte by byte is their big-endian value (R46, R95). -/
theorem toNat_readWord_bytes (id e c0 c1 c2 c3 r0 r1 : Byte) :
    (readWord [id, e, c0, c1, c2, c3, r0, r1] 2).toNat =
      c0.toNat * 2 ^ 24 + c1.toNat * 2 ^ 16 + c2.toNat * 2 ^ 8 + c3.toNat := by
  have hfield : memRead [id, e, c0, c1, c2, c3, r0, r1] 2 4 = beValue [c0, c1, c2, c3] := rfl
  have hlt : beValue [c0, c1, c2, c3] < 2 ^ 32 := (beValue_lt _).trans_eq (by norm_num)
  rw [readWord, hfield, BitVec.toNat_ofNat, Nat.mod_eq_of_lt hlt]
  simp only [beValue, List.foldl]
  omega

end Sys2Proof.Machine
end

section
/-! SUPPORT. What AV.VALIDATE does on operands within `MAX_LEN`, and what its answers tell of the reply. -/

namespace Sys2Proof.Machine

section
variable {s : State} {ack prev tail : Bytes} {id : Byte} {o : HostOutcome}

theorem exec_avValidate_early (ha : fits s.params ack = true) (hp : fits s.params prev = true)
    (ho : earlyOutcome s.params.errCode ack = some o) :
    exec (.avValidate ack prev) s = .next { s with results := s.results ++ [.outcome o] } :=
  validateReply_early ha hp ho

theorem exec_avValidate_match (ha : fits s.params ack = true) (hp : fits s.params (id :: tail) = true)
    (ho : earlyOutcome s.params.errCode ack = none) (heq : crc s.params.crcTable tail = readWord ack 2) :
    exec (.avValidate ack (id :: tail)) s =
      .next { s with acc := crc s.params.crcTable tail, results := s.results ++ [.outcome .none] } :=
  (validateReply_last ha hp ho).trans (if_pos heq)

theorem exec_avValidate_mismatch (ha : fits s.params ack = true) (hp : fits s.params (id :: tail) = true)
    (ho : earlyOutcome s.params.errCode ack = none) (hne : crc s.params.crcTable tail ≠ readWord ack 2) :
    exec (.avValidate ack (id :: tail)) s =
      .next { s with
        acc := crc s.params.crcTable tail
        results := s.results ++ [.outcome .crcMismatch]
        diags := s.diags ++ [⟨crc s.params.crcTable tail, readWord ack 2, ack, id :: tail⟩] } :=
  (validateReply_last ha hp ho).trans (if_neg hne)

end

section
variable {p : Params} {ack prev tail : Bytes} {id : Byte} {o : HostOutcome}

theorem answers_of_earlyOutcome (ha : fits p ack = true) (hp : fits p prev = true)
    (ho : earlyOutcome p.errCode ack = some o) : answers p ack prev o := by
  rintro s rfl
  exact ⟨_, exec_avValidate_early ha hp ho, rfl⟩

theorem answers_of_match (ha : fits p ack = true) (hp : fits p (id :: tail) = true)
    (ho : earlyOutcome p.errCode ack = none) (heq : crc p.crcTable tail = readWord ack 2) :
    answers p ack (id :: tail) .none := by
  rintro s rfl
  exact ⟨_, exec_avValidate_match ha hp ho heq, rfl⟩

theorem answers_of_mismatch (ha : fits p ack = true) (hp : fits p (id :: tail) = true)
    (ho : earlyOutcome p.errCode ack = none) (hne : crc p.crcTable tail ≠ readWord ack 2) :
    answers p ack (id :: tail) .crcMismatch := by
  rintro s rfl
  exact ⟨_, exec_avValidate_mismatch ha hp ho hne, rfl⟩

/-- An answer is the early outcome, or one of the two of step 5 when there is none. -/
theorem answers_cases (h : answers p ack prev o) :
    earlyOutcome p.errCode ack = some o ∨
      earlyOutcome p.errCode ack = none ∧ (o = .none ∨ o = .crcMismatch) := by
  obtain ⟨t, ht, hr⟩ := h (State.resetWith p) rfl
  obtain ⟨-, -, ⟨o', ho, rfl⟩ | ⟨ho, id, tail, -, ⟨-, rfl⟩ | ⟨-, rfl⟩⟩⟩ := validateReply_next ht
  · obtain rfl : o' = o := by simpa using hr
    exact .inl ho
  · exact .inr ⟨ho, .inl (by simpa using hr.symm)⟩
  · exact .inr ⟨ho, .inr (by simpa using hr.symm)⟩

/-- An answer other than the two of step 5 is the early outcome. -/
theorem earlyOutcome_of_answers (h : answers p ack prev o) (hnone : o ≠ .none) (hmismatch : o ≠ .crcMismatch) :
    earlyOutcome p.errCode ack = some o :=
  (answers_cases h).resolve_right fun hlast => hlast.2.elim hnone hmismatch

/-- The two outcomes of step 5 are answers only when it is reached (R95). -/
theorem reachesStep5_of_answers (h : answers p ack prev o) (ho : o = .crcMismatch ∨ o = .none) :
    reachesStep5 p ack = true := by
  obtain hearly | ⟨hlast, -⟩ := answers_cases h
  · obtain ⟨hnone, hmismatch⟩ := earlyOutcome_ne_last hearly
    exact absurd ho (by simp [hnone, hmismatch])
  · exact (reachesStep5_iff p ack).2 hlast

/-- An ACK that reports an error other than NONE is answered by the outcome of the same name (R94). -/
theorem answers_deviceError {n : DeviceError} {rest : Bytes} (hc : p.errCode.wf) (hn : n ≠ .none)
    (hrest : rest.length = 6) (ha : fits p (idAck :: errByte p.errCode n :: rest) = true)
    (hp : fits p prev = true) : answers p (idAck :: errByte p.errCode n :: rest) prev (outcomeOf n) :=
  answers_of_earlyOutcome ha hp
    (earlyOutcome_of_deviceError (by simp [hrest]) rfl (decodeErr_errByte hc n) hn)

end

end Sys2Proof.Machine
end

section
/-! PROOFS. The statements about the Ack Validator. -/

namespace Sys2Proof.Proofs

open Sys2Proof.Machine

/-- Settles O32: step 1 decides. -/
theorem wrongLengthIsSizeTooLarge : Obligations.WrongLengthIsSizeTooLarge :=
  fun s _ _ ha hp hl => exec_avValidate_early ha hp (earlyOutcome_of_length_ne s.params.errCode hl)

/-- Settles O33: step 2 decides. -/
theorem wrongIdIsInvalidMessageId : Obligations.WrongIdIsInvalidMessageId :=
  fun s _ _ _ ha hp hrest hid =>
    exec_avValidate_early ha hp (earlyOutcome_of_id_ne s.params.errCode (by simp [hrest]) hid)

/-- Settles O34: step 3 decides, since the byte decodes to no error. -/
theorem unknownErrorByteIsAnOutcome : Obligations.UnknownErrorByteIsAnOutcome := by
  intro s e rest prev ha hp hrest he
  have hunknown : decodeErr s.params.errCode e = none := (decodeErr_eq_none_iff _ e).2 he
  exact exec_avValidate_early ha hp (earlyOutcome_of_unknown (by simp [hrest]) rfl hunknown)

/-- Settles O35: step 4 decides, since the decoder finds the error of the code. -/
theorem deviceErrorIsSurfacedVerbatim : Obligations.DeviceErrorIsSurfacedVerbatim := by
  intro s n rest prev hc hn hrest ha hp
  have hknown := decodeErr_errByte hc n
  exact exec_avValidate_early ha hp (earlyOutcome_of_deviceError (by simp [hrest]) rfl hknown hn)

/-- Settles O36: short of step 5 the outcome is an early one; at step 5 the comparison of words is that of the integers. -/
theorem checksumDecidesTheLastStep : Obligations.ChecksumDecidesTheLastStep := by
  refine ⟨fun s t ack prev h hreach => ?_, fun s c0 c1 c2 c3 r0 r1 id tail ha hp => ?_⟩
  · obtain ⟨-, -, ⟨o, ho, rfl⟩ | ⟨ho, -⟩⟩ := validateReply_next h
    · obtain ⟨hnone, hmismatch⟩ := earlyOutcome_ne_last ho
      simp [hnone, hmismatch]
    · rw [(reachesStep5_iff s.params ack).2 ho] at hreach
      cases hreach
  · have hlast := (earlyOutcome_eq_none_iff s.params.errCode
      [0x02#8, s.params.errCode.none, c0, c1, c2, c3, r0, r1]).2 ⟨rfl, rfl, rfl⟩
    have hfield := toNat_readWord_bytes 0x02#8 s.params.errCode.none c0 c1 c2 c3 r0 r1
    rw [← hfield, BitVec.ofNat_toNat, BitVec.setWidth_eq]
    exact ⟨fun heq => exec_avValidate_match ha hp hlast (BitVec.eq_of_toNat_eq heq),
      fun hne => exec_avValidate_mismatch ha hp hlast fun heq => hne (congrArg BitVec.toNat heq)⟩

/-- The nine outcomes, each on operands of at most 8 bytes: the device errors by their codes, UNKNOWN_ERROR_CODE by a byte
that is no code, and the two of step 5 by the checksum of an empty tail. -/
theorem every_outcome_is_an_answer {p : Params} (hc : p.errCode.wf) (h8 : fits p (List.replicate 8 0x00#8) = true)
    (o : HostOutcome) : ∃ ack prev, ack.length ≤ 8 ∧ prev ≠ [] ∧ answers p ack prev o := by
  have hp : fits p [idData] = true := fits_of_length_le h8 (by decide)
  have hack : ∀ e v, fits p (ackPacket e v 0 0) = true := fun e v => fits_of_length_le h8 (by simp)
  have device : ∀ n : DeviceError, n ≠ .none →
      ∃ ack prev, ack.length ≤ 8 ∧ prev ≠ [] ∧ answers p ack prev (outcomeOf n) := fun n hn =>
    ⟨ackPacket (errByte p.errCode n) 0 0 0, [idData], by simp, by simp,
      answers_deviceError hc hn (by simp) (hack _ _) hp⟩
  have last : ∀ v, earlyOutcome p.errCode (ackPacket p.errCode.none v 0 0) = none := fun v =>
    (earlyOutcome_eq_none_iff _ _).2 ⟨by simp, rfl, rfl⟩
  cases o with
  | none =>
    refine ⟨ackPacket p.errCode.none (crc p.crcTable []) 0 0, [idData], by simp, by simp,
      answers_of_match (hack _ _) hp (last _) ?_⟩
    rw [readWord_ackPacket_crc]
  | crcMismatch =>
    refine ⟨ackPacket p.errCode.none 0 0 0, [idData], by simp, by simp,
      answers_of_mismatch (hack _ _) hp (last _) ?_⟩
    rw [readWord_ackPacket_crc, crc_eq_crcFrom, crcFrom_nil]
    decide
  | unknownErrorCode =>
    obtain ⟨b, hb⟩ := exists_decodeErr_eq_none p.errCode
    exact ⟨ackPacket b 0 0 0, [idData], by simp, by simp,
      answers_of_earlyOutcome (hack _ _) hp (earlyOutcome_of_unknown (by simp) rfl hb)⟩
  | packetOverrun => exact device .packetOverrun (by decide)
  | enterDfuNotRequested => exact device .enterDfuNotRequested (by decide)
  | outOfSequence => exact device .outOfSequence (by decide)
  | invalidMessageId => exact device .invalidMessageId (by decide)
  | sizeTooLarge => exact device .sizeTooLarge (by decide)
  | internalError => exact device .internalError (by decide)

/-- Settles O41: the ambiguous two by the code of an ACK, by a wrong id and by a short reply; the others traced back from
the answer to the early outcome or to step 5. -/
theorem everyOutcomeIsReachableByItsRoads : Obligations.EveryOutcomeIsReachableByItsRoads := by
  intro p hc h8
  have hp : fits p [idData] = true := fits_of_length_le h8 (by decide)
  have reported : ∀ n : DeviceError, n ≠ .none →
      ∃ rest prev, rest.length = 7 ∧ answers p (0x02#8 :: rest) prev (outcomeOf n) := fun n hn =>
    ⟨errByte p.errCode n :: List.replicate 6 0, [idData], by simp,
      answers_deviceError hc hn (by simp) (fits_of_length_le h8 (by simp)) hp⟩
  refine ⟨every_outcome_is_an_answer hc h8, ?_, ?_, ?_, fun ack prev o h => ⟨?_, ?_, ?_⟩⟩
  · intro o ho
    rcases List.mem_pair.1 ho with rfl | rfl
    · exact reported .sizeTooLarge (by decide)
    · exact reported .invalidMessageId (by decide)
  · exact ⟨List.replicate 7 0, [idData], by simp,
      answers_of_earlyOutcome (fits_of_length_le h8 (by simp)) hp (earlyOutcome_of_id_ne _ (by simp) (by decide))⟩
  · exact ⟨List.replicate 7 0, [idData], by simp,
      answers_of_earlyOutcome (fits_of_length_le h8 (by simp)) hp (earlyOutcome_of_length_ne _ (by simp))⟩
  · rintro rfl
    exact unknown_of_earlyOutcome (earlyOutcome_of_answers h (by decide) (by decide))
  · exact reachesStep5_of_answers h
  · rintro n hn rfl
    have hnone : n ≠ .none := ne_of_mem_of_not_mem hn (by decide)
    have hsize : n ≠ .sizeTooLarge := ne_of_mem_of_not_mem hn (by decide)
    have hmsg : n ≠ .invalidMessageId := ne_of_mem_of_not_mem hn (by decide)
    have hearly := earlyOutcome_of_answers h (outcomeOf_injective.ne (a₂ := .none) hnone) (outcomeOf_ne_crcMismatch n)
    exact deviceError_of_earlyOutcome hearly hsize hmsg

end Sys2Proof.Proofs
end

section
/-! SUPPORT. The first cause of R108 as a chain of conditions, and read off the validation: the early outcome where there
is one, and otherwise the two outcomes of step 5. -/

namespace Sys2Proof.Machine

/-- The first cause as a chain of conditions, in the order of the five steps of R90. -/
theorem firstCause_eq (p : Params) (ack prev : Bytes) :
    firstCause p ack prev =
      if ack.length ≠ 8 then .sizeTooLarge
      else if ack.getD 0 0 ≠ idAck then .invalidMessageId
      else if decodeErr p.errCode (ack.getD 1 0) = none then .unknownErrorCode
      else if ack.getD 1 0 ≠ p.errCode.none then ((decodeErr p.errCode (ack.getD 1 0)).map outcomeOf).getD .none
      else if crc p.crcTable prev.tail = readWord ack 2 then .none
      else .crcMismatch := by
  unfold firstCause causes idAck
  split_ifs <;> simp_all

/-- The byte of an error other than NONE is not the code of NONE. -/
theorem ne_none_code_of_decodeErr {c : ErrCodes} {e : Byte} {n : DeviceError} (he : decodeErr c e = some n)
    (hn : n ≠ .none) : e ≠ c.none := by
  rintro rfl
  rw [decodeErr_none_code] at he
  exact hn (Option.some.inj he).symm

section
variable {p : Params} {ack prev : Bytes}

/-- An early outcome is that of the first cause, one step at a time. -/
theorem firstCause_of_earlyOutcome {o : HostOutcome} (ho : earlyOutcome p.errCode ack = some o) :
    firstCause p ack prev = o := by
  rw [firstCause_eq]
  obtain ⟨hl, rfl⟩ | ⟨hl, hid, rfl⟩ | ⟨hl, hid, he, rfl⟩ | ⟨hl, hid, n, hn, he, rfl⟩ := earlyOutcome_eq_some ho
  · rw [if_pos hl]
  · rw [if_neg (not_not.2 hl), if_pos hid]
  · rw [if_neg (not_not.2 hl), if_neg (not_not.2 hid), if_pos he]
  · rw [if_neg (not_not.2 hl), if_neg (not_not.2 hid), he, if_neg (Option.some_ne_none n),
      if_pos (ne_none_code_of_decodeErr he hn), Option.map_some, Option.getD_some]

/-- Where steps 1 to 4 reach no outcome, the comparison of the checksums is the only cause left. -/
theorem firstCause_of_last (ho : earlyOutcome p.errCode ack = none) :
    firstCause p ack prev = if crc p.crcTable prev.tail = readWord ack 2 then .none else .crcMismatch := by
  obtain ⟨hl, hid, he⟩ := (earlyOutcome_eq_none_iff p.errCode ack).1 ho
  rw [firstCause_eq, if_neg (not_not.2 hl), if_neg (not_not.2 hid), he, decodeErr_none_code,
    if_neg (Option.some_ne_none _), if_neg (not_not.2 rfl)]

end

end Sys2Proof.Machine
end

section
/-! PROOFS. The statement about the order of the causes. -/

namespace Sys2Proof.Proofs

open Sys2Proof.Machine

/-- Settles O40: an early outcome is that of the first cause; at step 5 the previous packet is not empty, and the
comparison of the checksums decides both the answer and the last cause. -/
theorem outcomeIsThatOfTheFirstCause : Obligations.OutcomeIsThatOfTheFirstCause := by
  intro p ack prev ha hp hprev
  cases ho : earlyOutcome p.errCode ack with
  | some o =>
    rw [firstCause_of_earlyOutcome ho]
    exact answers_of_earlyOutcome ha hp ho
  | none =>
    obtain ⟨id, tail, rfl⟩ := List.exists_cons_of_ne_nil (hprev ((reachesStep5_iff p ack).2 ho))
    rw [firstCause_of_last ho, List.tail_cons]
    split
    case isTrue heq => exact answers_of_match ha hp ho heq
    case isFalse hne => exact answers_of_mismatch ha hp ho hne

end Sys2Proof.Proofs
end

section
/-! SUPPORT. Decoder and encoder as inverses of each other: the two big-endian fields read back as the bytes they came
from, the reserved ids told apart by their leading bits, and from them the two directions of the wire decoder. -/

namespace Sys2Proof.Machine

/-- The image of a 3-byte field that was read is the field (R10). -/
theorem be24Bytes_ofNat_beValue {s : Bytes} (h : s.length = 3) : be24Bytes (BitVec.ofNat 24 (beValue s)) = s := by
  have hlt : beValue s < 2 ^ 24 := (beValue_lt s).trans_eq (by rw [h]; norm_num)
  rw [be24Bytes, BitVec.toNat_ofNat, Nat.mod_eq_of_lt hlt, ← h, beBytes_beValue]

/-- The image of a 4-byte field that was read is the field (R10). -/
theorem be32Bytes_ofNat_beValue {s : Bytes} (h : s.length = 4) : be32Bytes (BitVec.ofNat 32 (beValue s)) = s := by
  have hlt : beValue s < 2 ^ 32 := (beValue_lt s).trans_eq (by rw [h]; norm_num)
  rw [be32Bytes, BitVec.toNat_ofNat, Nat.mod_eq_of_lt hlt, ← h, beBytes_beValue]

/-- Eight bytes with the START id are the START packet of the fields they hold (R44). -/
theorem startPacket_of_fields {rest : Bytes} (h : rest.length = 7) :
    startPacket (BitVec.ofNat 24 (memRead (idStart :: rest) 1 3)) (readWord (idStart :: rest) 4) = idStart :: rest := by
  match rest, h with
  | [b1, b2, b3, b4, b5, b6, b7], _ =>
    have hsize : be24Bytes (BitVec.ofNat 24 (memRead [idStart, b1, b2, b3, b4, b5, b6, b7] 1 3)) = [b1, b2, b3] :=
      be24Bytes_ofNat_beValue rfl
    have hcrc : be32Bytes (readWord [idStart, b1, b2, b3, b4, b5, b6, b7] 4) = [b4, b5, b6, b7] :=
      be32Bytes_ofNat_beValue rfl
    rw [startPacket, hsize, hcrc]
    rfl

/-- Eight bytes with the ACK id are the ACK packet of the fields they hold (R46). -/
theorem ackPacket_of_fields {rest : Bytes} (h : rest.length = 7) :
    ackPacket ((idAck :: rest).getD 1 0) (readWord (idAck :: rest) 2) ((idAck :: rest).getD 6 0)
      ((idAck :: rest).getD 7 0) = idAck :: rest := by
  match rest, h with
  | [b1, b2, b3, b4, b5, b6, b7], _ =>
    have hcrc : be32Bytes (readWord [idAck, b1, b2, b3, b4, b5, b6, b7] 2) = [b2, b3, b4, b5] :=
      be32Bytes_ofNat_beValue rfl
    rw [ackPacket, hcrc]
    rfl

end Sys2Proof.Machine

namespace Sys2Proof

open Sys2Proof.Machine

/-- Two rows of the table exclude each other when their matches differ on the bits that both masks keep (R60). -/
theorem leading_bits_ne {id m v m' v' : Byte} (h : id &&& m = v) (hv : v &&& m' ≠ v' &&& m) : id &&& m' ≠ v' := by
  rintro rfl
  rw [← h, BitVec.and_assoc, BitVec.and_assoc, BitVec.and_comm m] at hv
  exact hv rfl

/-- An id with leading bits that no message kind has is none of the four message kinds (R43, R53). -/
theorem ne_kinds_of_leading_bits {id m v : Byte} (h : id &&& m = v)
    (hv : ∀ k ∈ [idUnknown, idStart, idAck, idData], k &&& m ≠ v) :
    id ≠ idUnknown ∧ id ≠ idStart ∧ id ≠ idAck ∧ id ≠ idData := by
  have hne : ∀ k ∈ [idUnknown, idStart, idAck, idData], id ≠ k := by
    rintro k hk rfl
    exact hv id hk h
  simpa using hne

theorem decodePacket_startPacket (size : BitVec 24) (crc : Word) (prev : Bytes) :
    decodePacket (startPacket size crc) prev = some (.pktStart size crc prev) := by
  have h := decodePacket_of_start (be24Bytes size ++ be32Bytes crc) prev (by simp [fixedLength])
  rw [← startPacket, memRead_startPacket_size, readWord_startPacket_crc, BitVec.ofNat_toNat, BitVec.setWidth_eq] at h
  exact h

theorem decodePacket_ackPacket (err : Byte) (crc : Word) (rsv0 rsv1 : Byte) (prev : Bytes) :
    decodePacket (ackPacket err crc rsv0 rsv1) prev = some (.pktAck err crc rsv0 rsv1 prev) := by
  have h := decodePacket_of_ack (err :: (be32Bytes crc ++ [rsv0, rsv1])) prev (by simp [fixedLength])
  rw [← ackPacket, readWord_ackPacket_crc] at h
  exact h

theorem decodePacket_dataPacket (seq : Byte) (payload prev : Bytes) :
    decodePacket (dataPacket seq payload) prev = some (.pktData seq payload prev) := rfl

theorem decodePacket_unknown (rest prev : Bytes) :
    decodePacket (idUnknown :: rest) prev = some (.pktUnknown rest prev) := rfl

/-- The wire decoder reads the bytes of a well-formed packet row as that row with its fields: the fixed-length rows
by their fields, the reserved rows by the leading bits that their predecessors do not have (R60). -/
theorem decodePacket_of_encode {i : Instr} {p prev : Bytes} (hi : i.wf = true) (h : encode i = .reply p prev) :
    decodePacket p prev = some i := by
  cases i <;> cases h
  case pktStart => exact decodePacket_startPacket _ _ _
  case pktData => exact decodePacket_dataPacket _ _ _
  case pktAck => exact decodePacket_ackPacket _ _ _ _ _
  case pktUnknown => exact decodePacket_unknown _ _
  all_goals
    have hid := eq_of_beq hi
    obtain ⟨h0, h1, h2, h3⟩ := ne_kinds_of_leading_bits hid (by decide)
    rw [decodePacket_of_reserved _ _ h0 h1 h2 h3]
    simp (disch := decide) only [leading_bits_ne hid, hid, if_true, if_false]

/-- Decoding what encodes a well-formed instruction gives the instruction: a command by its code, a packet by its row. -/
theorem decode_encode {i : Instr} (hi : i.wf = true) : decode (encode i) = .ok i := by
  cases h : encode i with
  | command code ports => cases i <;> cases h <;> rfl
  | reply p prev => rw [decode, decodeReply, decodePacket_of_encode hi h, Option.getD_some]

/-- A START id is that of a packet at 8 bytes alone (R52). -/
theorem length_of_decodePacket_start {i : Instr} {rest prev : Bytes}
    (h : decodePacket (idStart :: rest) prev = some i) : rest.length = 7 := by
  by_contra hl
  have hid : idStart ≠ idUnknown := by decide
  simp [decodePacket, hid, fixedLength, hl] at h

/-- An ACK id is that of a packet at 8 bytes alone (R52). -/
theorem length_of_decodePacket_ack {i : Instr} {rest prev : Bytes}
    (h : decodePacket (idAck :: rest) prev = some i) : rest.length = 7 := by
  by_contra hl
  have hid0 : idAck ≠ idUnknown := by decide
  have hid1 : idAck ≠ idStart := by decide
  simp [decodePacket, hid0, hid1, fixedLength, hl] at h

/-- Every bit of a packet is in the row it is decoded to: encoding the row gives the packet back. -/
theorem encode_of_decodePacket {i : Instr} {p prev : Bytes} (h : decodePacket p prev = some i) :
    encode i = .reply p prev := by
  match p, h with
  | id :: rest, h =>
    by_cases h0 : id = idUnknown
    · subst h0
      cases h
      rfl
    by_cases h1 : id = idStart
    · subst h1
      have hl := length_of_decodePacket_start h
      rw [decodePacket_of_start rest prev (congrArg (· + 1) hl)] at h
      cases h
      rw [encode, startPacket_of_fields hl]
    by_cases h2 : id = idAck
    · subst h2
      have hl := length_of_decodePacket_ack h
      rw [decodePacket_of_ack rest prev (congrArg (· + 1) hl)] at h
      cases h
      rw [encode, ackPacket_of_fields hl]
    by_cases h3 : id = idData
    · subst h3
      cases rest <;> cases h
      rfl
    rw [decodePacket_of_reserved rest prev h0 h1 h2 h3] at h
    split_ifs at h <;> cases h <;> rfl

end Sys2Proof
end

section
/-! SUPPORT. The validations among the instructions: what `replyOf` gives an instruction, and what the predicates of the read and
write map say of one. Every instruction is one of the seven other commands or a validation. -/

namespace Sys2Proof.Machine

/-- A received packet is validated as its bytes stand (log entry 3). -/
theorem replyOf_of_encode {i : Instr} {ack prev : Bytes} (h : encode i = .reply ack prev) :
    replyOf i = some (ack, prev) := by
  cases i <;> cases h <;> rfl

section
variable {i : Instr} {ack prev : Bytes}

/-- AV.VALIDATE and the packet rows are the shared validation of their operands (R90). -/
theorem exec_of_replyOf (h : replyOf i = some (ack, prev)) (s : State) : exec i s = validateReply ack prev s := by
  cases i <;> cases h <;> rfl

theorem writesSeq_of_replyOf (h : replyOf i = some (ack, prev)) : writesSeq i = false := by
  cases i <;> cases h <;> rfl

theorem writesAcc_of_replyOf (h : replyOf i = some (ack, prev)) (p : Params) : writesAcc p i = reachesStep5 p ack := by
  cases i <;> cases h <;> rfl

theorem readsTable_of_replyOf (h : replyOf i = some (ack, prev)) (p : Params) :
    readsTable p i = (reachesStep5 p ack && !prev.tail.isEmpty) := by
  cases i <;> cases h <;> rfl

theorem admitted_of_replyOf (h : replyOf i = some (ack, prev)) (p : Params) :
    admitted p i = admittedReply p ack prev := by
  cases i <;> cases h <;> rfl

end

/-- Case analysis on an instruction: the seven commands that validate nothing, each by name, and the validations as one case. -/
theorem instr_cases {motive : Instr → Prop} (crcInit : motive .crcInit) (crcByte : ∀ b, motive (.crcByte b))
    (crcRead : motive .crcRead) (crcCompute : ∀ buf, motive (.crcCompute buf))
    (frStart : ∀ n c, motive (.frStart n c)) (frData : ∀ payload reset, motive (.frData payload reset))
    (frSrst : motive .frSrst) (validation : ∀ i ack prev, replyOf i = some (ack, prev) → motive i) (i : Instr) :
    motive i := by
  cases i
  case crcInit => exact crcInit
  case crcByte => exact crcByte _
  case crcRead => exact crcRead
  case crcCompute => exact crcCompute _
  case frStart => exact frStart _ _
  case frData => exact frData _ _
  case frSrst => exact frSrst
  all_goals exact validation _ _ _ rfl

end Sys2Proof.Machine
end

section
/-! PROOFS. The statements about the step, and about the decoder and the encoder. -/

namespace Sys2Proof.Proofs

open Sys2Proof.Machine

/-- Settles O6. -/
theorem decodeOfEncodeIsTheInstruction : Obligations.DecodeOfEncodeIsTheInstruction :=
  fun _ hi => decode_encode hi

/-- Settles O7: each code selects its arm of the decoder. -/
theorem commandCodesSelectTheCommands : Obligations.CommandCodesSelectTheCommands :=
  fun _ => ⟨rfl, rfl, rfl, rfl, rfl, rfl, rfl, rfl⟩

/-- Settles O8: fixed words, decoded one by one. -/
theorem wireImagesDecodeToTheirPackets : Obligations.WireImagesDecodeToTheirPackets :=
  ⟨rfl, rfl, rfl, rfl, rfl, rfl, rfl, rfl, rfl, rfl, rfl, rfl⟩

/-- Settles O24: the packet is the START packet of the fields, and that decodes to its row. -/
theorem builtStartPacketDecodesToItsFields : Obligations.BuiltStartPacketDecodesToItsFields := by
  intro s n c prev
  exact ⟨_, _, exec_frStart n c s, rfl, length_startPacket _ _, decodePacket_startPacket _ _ _⟩

/-- Settles O9: a row encodes to the packet it was decoded from, so it validates the packet's own bytes; a sequence of no
row is AV.VALIDATE already. -/
theorem packetRowsAgreeWithTheValidator : Obligations.PacketRowsAgreeWithTheValidator := by
  intro p prev s
  rw [decodeReply]
  cases h : decodePacket p prev with
  | none => rfl
  | some i => exact exec_of_replyOf (replyOf_of_encode (encode_of_decodePacket h)) s

end Sys2Proof.Proofs
end

section
/-! SUPPORT. The step by its cases, and a run of the machine over the encodings of a list of instructions. -/

namespace Sys2Proof.Machine

theorem step_of_decode {s : State} {r : Request} {rest : List Request} {i : Instr} (hs : s.requests = r :: rest)
    (hr : decode r = .ok i) : step s = exec i { s with requests := rest } := by
  simp only [step, hs, hr]

theorem step_of_no_request {s : State} (hs : s.requests = []) : step s = .next s := by
  simp only [step, hs]

theorem step_of_illegal {s : State} {r : Request} {rest : List Request} {code : Byte} (hs : s.requests = r :: rest)
    (hr : decode r = .error (.illegalCommand code)) : step s = .refused (.illegalCommand code) := by
  simp only [step, hs, hr]

/-- Everything a step can do when it answers a next state: nothing when idle, or the next instruction, executed with its
request taken (R39, R119). -/
theorem step_next {s t : State} (h : step s = .next t) :
    t = s ∨ ∃ i rest, exec i { s with requests := rest } = .next t := by
  cases hs : s.requests with
  | nil =>
    rw [step_of_no_request hs] at h
    cases h
    exact .inl rfl
  | cons r rest =>
    cases hr : decode r with
    | ok i => exact .inr ⟨i, rest, (step_of_decode hs hr).symm.trans h⟩
    | error e =>
      rw [step_of_illegal hs hr] at h
      cases h

/-- A code other than the eight has no command, whatever stands on the ports (R56). -/
theorem decode_of_reserved_code {code : Byte} (ports : OperandPorts)
    (h : code ∉ [0x01#8, 0x02#8, 0x03#8, 0x04#8, 0x10#8, 0x11#8, 0x12#8, 0x20#8]) :
    decode (.command code ports) = .error (.illegalCommand code) := by
  have hnone : decodeCommand code ports = none := by
    simp only [List.mem_cons, List.not_mem_nil, or_false, not_or] at h
    simp only [decodeCommand, h, if_false]
  simp only [decode, hnone]

/-- A run whose first instruction is refused stops there (R39). -/
theorem execAll_cons_of_refused {i : Instr} {is : List Instr} {s : State} {r : Refusal} (h : exec i s = .refused r) :
    execAll (i :: is) s = .refused r := by
  simp only [execAll, h]

/-- A run over the encodings of a list of instructions executes them in order: each takes its own request, and the
requests behind it are read by none (R39). -/
theorem run_encodings (is : List Instr) (rest : List Request) (s : State) (h : ∀ i ∈ is, i.wf = true) :
    Host.Core.run core is.length { s with requests := is.map encode ++ rest } =
      execAll is { s with requests := rest } := by
  induction is generalizing s with
  | nil => rfl
  | cons i is ih =>
    obtain ⟨hi, his⟩ := List.forall_mem_cons.1 h
    have hstep : step { s with requests := (i :: is).map encode ++ rest } =
        exec i { s with requests := is.map encode ++ rest } := step_of_decode rfl (decode_encode hi)
    have hsame := exec_requests i { s with requests := rest } (is.map encode ++ rest)
    cases hexec : exec i { s with requests := rest } with
    | next t =>
      rw [hexec] at hsame
      have ht : t.requests = rest := (exec_keeps_params_and_requests hexec).2
      rw [execAll_cons_of_next hexec, List.length_cons, run_succ_of_next _ (hstep.trans hsame), ih t his, ← ht]
    | fault r => cases r
    | refused r =>
      rw [hexec] at hsame
      rw [List.length_cons, run_succ_of_refused _ (hstep.trans hsame)]
      exact (execAll_cons_of_refused hexec).symm

end Sys2Proof.Machine
end

section
/-! PROOFS. The statements about reset and the step. -/

namespace Sys2Proof.Proofs

open Sys2Proof.Machine

/-- Settles O1. -/
theorem resetLeavesRegistersAndEmptyPorts : Obligations.ResetLeavesRegistersAndEmptyPorts :=
  ⟨fun _ => ⟨rfl, rfl, rfl, rfl, rfl, rfl⟩, rfl, rfl⟩

/-- Settles O2. -/
theorem stepRunsTheDecodedInstruction : Obligations.StepRunsTheDecodedInstruction :=
  fun _ _ _ _ hs hr => step_of_decode hs hr

/-- Settles O3. -/
theorem idleStepHoldsTheState : Obligations.IdleStepHoldsTheState :=
  fun _ hs => step_of_no_request hs

/-- Settles O4: the decoder has no command for such a code. -/
theorem reservedCommandCodesAreRefused : Obligations.ReservedCommandCodesAreRefused :=
  fun _ _ ports _ hs hcode => step_of_illegal hs (decode_of_reserved_code ports hcode)

/-- Settles O5, by induction on the list of instructions. -/
theorem steppingThroughRequestsIsARun : Obligations.SteppingThroughRequestsIsARun :=
  fun is rest s h => run_encodings is rest s h

end Sys2Proof.Proofs
end

section
/-! SUPPORT. What every instruction returns and records, said once for `exec`, and the invariant of the ports it keeps. -/

namespace Sys2Proof.Machine

/-- `t` is `s` with the one value `r` returned, and with one true record more exactly when `r` is CRC_MISMATCH (R50, R99). -/
def returnsTo (s t : State) (r : Result) : Prop :=
  t.results = s.results ++ [r] ∧
    ((r ≠ .outcome .crcMismatch ∧ t.diags = s.diags) ∨
      (r = .outcome .crcMismatch ∧ ∃ d, t.diags = s.diags ++ [d] ∧ diagTrue s.params d))

section
variable {i : Instr} {ack prev out : Bytes} {s t : State} {r : Result}

theorem returnsTo_quiet (hr : t.results = s.results ++ [r]) (hd : t.diags = s.diags)
    (hne : r ≠ .outcome .crcMismatch) : returnsTo s t r :=
  ⟨hr, .inl ⟨hne, hd⟩⟩

theorem exec_crcCompute_next {buf : Bytes} (h : exec (.crcCompute buf) s = .next t) :
    fits s.params buf = true ∧
      t = { s with
        acc := crcFrom s.params.crcTable 0xFFFFFFFF#32 buf
        results := s.results ++ [.word (crcFrom s.params.crcTable 0xFFFFFFFF#32 buf)] } := by
  cases hf : fits s.params buf with
  | true =>
    rw [exec_crcCompute_of_fits hf] at h
    cases h
    exact ⟨rfl, rfl⟩
  | false =>
    rw [exec_crcCompute_of_not_fits hf] at h
    cases h

/-- FR.DATA with either flag: the packet of the number it carries, the next number left in SEQ. -/
theorem exec_frData_next {payload : Bytes} {reset : Bool} (h : exec (.frData payload reset) s = .next t) :
    fits s.params payload = true ∧
      t = { s with
        seq := (if reset then 0x00#8 else s.seq) + 1#8
        results := s.results ++ [.bytes (dataPacket (if reset then 0x00#8 else s.seq) payload)] } := by
  cases hf : fits s.params payload with
  | true =>
    cases reset with
    | true =>
      rw [exec_frData_reset hf] at h
      cases h
      exact ⟨rfl, rfl⟩
    | false =>
      rw [exec_frData_count hf] at h
      cases h
      exact ⟨rfl, rfl⟩
  | false =>
    rw [exec_frData_of_not_fits reset hf] at h
    cases h

/-- A validation returns an outcome, and records a true mismatch exactly when it is CRC_MISMATCH. -/
theorem validateReply_returns (h : validateReply ack prev s = .next t) : ∃ o, returnsTo s t (.outcome o) := by
  obtain ⟨-, -, ⟨o, ho, rfl⟩ | ⟨ho, id, tail, rfl, ⟨-, rfl⟩ | ⟨hne, rfl⟩⟩⟩ := validateReply_next h
  · exact ⟨o, returnsTo_quiet rfl rfl (by simp [(earlyOutcome_ne_last ho).2])⟩
  · exact ⟨.none, returnsTo_quiet rfl rfl (by simp)⟩
  · have hreach := (reachesStep5_iff s.params ack).2 ho
    exact ⟨.crcMismatch, rfl, .inr ⟨rfl, _, rfl, hreach, List.cons_ne_nil _ _, rfl, rfl, hne⟩⟩

theorem emittable_startPacket (size : BitVec 24) (crc : Word) : emittable (startPacket size crc) :=
  .inl ⟨rfl, length_startPacket size crc⟩

theorem emittable_dataPacket (seq : Byte) (payload : Bytes) : emittable (dataPacket seq payload) :=
  .inr ⟨rfl, by simp⟩

theorem ne_nil_of_emittable (h : emittable out) : out ≠ [] := by
  rintro rfl
  simp [emittable] at h

/-- Every instruction returns one value, records as it should, and a packet it returns is START or DATA (R50, R88, R99). -/
theorem exec_returns (h : exec i s = .next t) : ∃ r, returnsTo s t r ∧ ∀ out, r = .bytes out → emittable out := by
  cases i using instr_cases with
  | crcInit => cases h; exact ⟨.nothing, returnsTo_quiet rfl rfl (by simp), by simp⟩
  | crcByte b => cases h; exact ⟨.nothing, returnsTo_quiet rfl rfl (by simp), by simp⟩
  | crcRead => cases h; exact ⟨.word s.acc, returnsTo_quiet rfl rfl (by simp), by simp⟩
  | crcCompute buf =>
    obtain ⟨-, rfl⟩ := exec_crcCompute_next h
    exact ⟨.word _, returnsTo_quiet rfl rfl (by simp), by simp⟩
  | frStart n c =>
    cases h
    exact ⟨.bytes _, returnsTo_quiet rfl rfl (by simp), by rintro out ⟨⟩; exact emittable_startPacket _ _⟩
  | frData payload reset =>
    obtain ⟨-, rfl⟩ := exec_frData_next h
    exact ⟨.bytes _, returnsTo_quiet rfl rfl (by simp), by rintro out ⟨⟩; exact emittable_dataPacket _ _⟩
  | frSrst => cases h; exact ⟨.nothing, returnsTo_quiet rfl rfl (by simp), by simp⟩
  | validation i ack prev hi =>
    rw [exec_of_replyOf hi] at h
    obtain ⟨o, ho⟩ := validateReply_returns h
    exact ⟨.outcome o, ho, by simp⟩

/-- A packet that an instruction has just returned is one the block may emit. -/
theorem emittable_of_exec (h : exec i s = .next t) (hr : t.results = s.results ++ [.bytes out]) : emittable out := by
  obtain ⟨r, ⟨hresults, -⟩, hout⟩ := exec_returns h
  rw [hr] at hresults
  exact hout out (List.singleton_inj.1 (List.append_cancel_left hresults)).symm

/-- ACC changes only where R26 marks it written. -/
theorem exec_keeps_acc (h : exec i s = .next t) (hw : writesAcc s.params i = false) : t.acc = s.acc := by
  cases i using instr_cases with
  | crcInit => cases hw
  | crcByte b => cases hw
  | crcRead => cases h; rfl
  | crcCompute buf => cases hw
  | frStart n c => cases h; rfl
  | frData payload reset => obtain ⟨-, rfl⟩ := exec_frData_next h; rfl
  | frSrst => cases h; rfl
  | validation i ack prev hi =>
    rw [exec_of_replyOf hi] at h
    rw [writesAcc_of_replyOf hi] at hw
    obtain ⟨-, -, ⟨o, -, rfl⟩ | ⟨ho, -⟩⟩ := validateReply_next h
    · rfl
    · rw [(reachesStep5_iff s.params ack).2 ho] at hw
      cases hw

/-- SEQ changes only where R26 marks it written. -/
theorem exec_keeps_seq (h : exec i s = .next t) (hw : writesSeq i = false) : t.seq = s.seq := by
  cases i using instr_cases with
  | crcInit => cases h; rfl
  | crcByte b => cases h; rfl
  | crcRead => cases h; rfl
  | crcCompute buf => obtain ⟨-, rfl⟩ := exec_crcCompute_next h; rfl
  | frStart n c => cases h; rfl
  | frData payload reset => cases hw
  | frSrst => cases hw
  | validation i ack prev hi =>
    rw [exec_of_replyOf hi] at h
    exact (validateReply_frame h).1

/-- A value and the record that goes with it keep the ports sound. -/
theorem portsSound_of_returnsTo (hs : portsSound s) (hp : t.params = s.params) (h : returnsTo s t r)
    (hout : ∀ out, r = .bytes out → emittable out) : portsSound t := by
  obtain ⟨htrue, hcount, hpackets⟩ := hs
  obtain ⟨hr, hd⟩ := h
  have hresults : ∀ out, Result.bytes out ∈ t.results → emittable out := by
    intro out hmem
    rw [hr, List.mem_append, List.mem_singleton] at hmem
    exact hmem.elim (hpackets out) fun heq => hout out heq.symm
  obtain ⟨hne, hd⟩ | ⟨rfl, d, hd, hdiag⟩ := hd
  · refine ⟨?_, ?_, hresults⟩
    · rw [hd, hp]
      exact htrue
    · rw [hd, hr, List.count_append, List.count_singleton, hcount]
      simp [hne]
  · refine ⟨?_, ?_, hresults⟩
    · rw [hd, hp]
      exact List.forall_mem_append.2 ⟨htrue, List.forall_mem_singleton.2 hdiag⟩
    · rw [hd, hr, List.count_append, List.length_append, hcount]
      simp

theorem portsSound_of_exec (hs : portsSound s) (h : exec i s = .next t) : portsSound t := by
  obtain ⟨r, hreturns, hout⟩ := exec_returns h
  exact portsSound_of_returnsTo hs (exec_keeps_params_and_requests h).1 hreturns hout

end

end Sys2Proof.Machine
end

section
/-! PROOFS. The invariant of the ports, and the frame of every instruction. -/

namespace Sys2Proof.Proofs

open Sys2Proof.Machine

/-- Settles O51: an idle step changes nothing; any other executes an instruction on a state whose ports have carried the
same. -/
theorem stepKeepsThePortsSound : Obligations.StepKeepsThePortsSound := by
  intro s t hs h
  obtain rfl | ⟨i, rest, hexec⟩ := step_next h
  · exact hs
  · have hrest : portsSound { s with requests := rest } := hs
    exact portsSound_of_exec hrest hexec

/-- Settles O52: empty ports have carried nothing. -/
theorem portsAreSoundAfterReset : Obligations.PortsAreSoundAfterReset := by
  have hreset : ∀ p : Params, portsSound (State.resetWith p) := fun p => by simp [portsSound]
  exact ⟨hreset, hreset defaultParams⟩

/-- Settles O46. -/
theorem frameOfEveryInstruction : Obligations.FrameOfEveryInstruction := by
  intro i s t h
  obtain ⟨hparams, hrequests⟩ := exec_keeps_params_and_requests h
  obtain ⟨r, hreturns, -⟩ := exec_returns h
  exact ⟨hparams, hrequests, exec_keeps_acc h, exec_keeps_seq h, r, hreturns⟩

end Sys2Proof.Proofs
end

section
/-! SUPPORT. The fold over a concatenation, and the outcome numbers as codes and as places in the listing order. -/

namespace Sys2Proof.Machine

/-- The fold over a concatenation goes on from where the first part left off (R71). -/
theorem crcFrom_append (table : Vector Word 256) (acc : Word) (x y : Bytes) :
    crcFrom table acc (x ++ y) = crcFrom table (crcFrom table acc x) y :=
  List.foldl_append

theorem outcomeNumber_outcomeOf (p : Params) (e : DeviceError) : outcomeNumber p (outcomeOf e) = errByte p.errCode e := by
  cases e <;> rfl

/-- The nine outcomes in the order of the default numbers (R48). -/
def outcomesInOrder : List HostOutcome :=
  [.none, .packetOverrun, .enterDfuNotRequested, .outOfSequence, .invalidMessageId, .sizeTooLarge, .internalError,
    .crcMismatch, .unknownErrorCode]

/-- A default number is the outcome's place in the order. -/
theorem getD_outcomesInOrder (o : HostOutcome) :
    outcomesInOrder.getD (outcomeNumber defaultParams o).toNat .none = o := by
  cases o <;> rfl

end Sys2Proof.Machine
end

section
/-! PROOFS. The statements about the checksum across commands and on the default table, about the size port and a fresh
session, and about the code maps. -/

namespace Sys2Proof.Proofs

open Sys2Proof.Machine

/-- Settles O17: the run of CRC.COMPUTE, the stream and CRC.READ, and the fold over a concatenation. -/
theorem checksumContinuesAcrossCommands : Obligations.ChecksumContinuesAcrossCommands := by
  intro s x y hx
  rw [execAll_cons_of_next (exec_crcCompute_of_fits hx), execAll_crcBytes_append, execAll_cons_of_next (exec_crcRead _),
    execAll_nil]
  refine ⟨_, rfl, ?_⟩
  rw [crc_eq_crcFrom, crcFrom_append]
  exact ⟨rfl, List.getLast?_concat, rfl, rfl, rfl⟩

/-- Settles O18: one step from all ones. -/
theorem checksumOfOneByte : Obligations.ChecksumOfOneByte := by
  intro table b
  have hshift : 0xFFFFFFFF#32 <<< 8 = 0xFFFFFF00#32 := by decide
  have htop : (0xFFFFFFFF#32 >>> 24).setWidth 8 = 0xFF#8 := by decide
  rw [crc_eq_crcFrom, crcFrom_cons, crcFrom_nil, crcStep_eq]
  simp only [hshift, htop]

/-- Settles O19: a fixed table, computed entry by entry. -/
theorem defaultTableFollowsItsGeneratingRule : Obligations.DefaultTableFollowsItsGeneratingRule := by
  unfold Obligations.DefaultTableFollowsItsGeneratingRule
  decide

/-- Settles O20: fixed values, computed one by one. -/
theorem defaultTableCheckValues : Obligations.DefaultTableCheckValues := by
  unfold Obligations.DefaultTableCheckValues
  decide

/-- Settles O23: 2^24 divides 2^w, so the size field is the same. -/
theorem sizePortWidthCannotBeSeen : Obligations.SizePortWidthCannotBeSeen := by
  intro s w n c hw
  have hmod : n % 2 ^ w % 2 ^ 24 = n % 2 ^ 24 := Nat.mod_mod_of_dvd n (pow_dvd_pow 2 hw)
  rw [exec_frStart_eq_iff, startPacket_inj]
  exact ⟨(ofNat_24_eq_iff _ _).2 hmod, rfl⟩

/-- Settles O28: FR.SRST leaves 0 to count from; a first packet with the flag carries 0 and leaves 1 to count from. -/
theorem freshSessionNumbersFromZero : Obligations.FreshSessionNumbersFromZero := by
  intro s first others h
  obtain ⟨hfirst, hothers⟩ := List.forall_mem_cons.1 h
  constructor
  · rw [execAll_cons_of_next (exec_frSrst s)]
    refine ⟨_, execAll_frDatas (first :: others) _ h, ?_⟩
    simp
  · rw [execAll_cons_of_next (exec_frData_reset hfirst)]
    refine ⟨_, execAll_frDatas others _ hothers, ?_⟩
    have hcount : ∀ k : Nat, 0x01#8 + BitVec.ofNat 8 k = BitVec.ofNat 8 (k + 1) := fun k => by
      rw [Nat.add_comm, BitVec.ofNat_add]
    simp [hcount, List.mapIdx_cons]

/-- Settles O30: the decoder as the inverse of the code map. -/
theorem errorBytesDecodeByTheCodeMap : Obligations.ErrorBytesDecodeByTheCodeMap :=
  fun c hc => ⟨decodeErr_errByte hc, decodeErr_eq_none_iff c⟩

/-- Settles O31: the shared names are an injective part of the outcomes; the default numbers are places in a list. -/
theorem outcomeNumbersExtendErrorNumbers : Obligations.OutcomeNumbersExtendErrorNumbers := by
  refine ⟨outcomeNumber_outcomeOf, fun p hp a b hab => ?_, fun a b hab => ?_⟩
  · rw [← outcomeNumber_outcomeOf, ← outcomeNumber_outcomeOf] at hab
    exact outcomeOf_injective (hp _ _ hab)
  · rw [← getD_outcomesInOrder a, hab, getD_outcomesInOrder]

end Sys2Proof.Proofs
end

section
/-! SUPPORT. The validation where it is refused, where two replies cannot be told apart, and on the packet rows; and exactly
which instructions complete. -/

namespace Sys2Proof.Machine

section
variable {s t : State} {p : Params} {ack ack' prev tail rest : Bytes} {id id' : Byte} {i : Instr}

/-- An operand over `MAX_LEN` (R38). -/
theorem validateReply_of_not_fits (h : (fits s.params ack && fits s.params prev) = false) :
    validateReply ack prev s = .refused .operandTooLong := by
  simp [validateReply, h]

/-- Step 5 reached with an empty previous packet (R98). -/
theorem validateReply_of_empty (ha : fits s.params ack = true) (ho : earlyOutcome s.params.errCode ack = none) :
    validateReply ack [] s = .refused .emptyPrevious :=
  validateReply_last ha (fits_nil s.params) ho

/-- Short of step 5 there is an outcome (R90). -/
theorem earlyOutcome_of_not_reaches (h : reachesStep5 p ack = false) : ∃ o, earlyOutcome p.errCode ack = some o := by
  refine Option.ne_none_iff_exists'.1 fun hnone => ?_
  rw [(reachesStep5_iff p ack).2 hnone] at h
  cases h

theorem not_reachesStep5_of_earlyOutcome {o : HostOutcome} (ho : earlyOutcome p.errCode ack = some o) :
    reachesStep5 p ack = false := by
  rw [Bool.eq_false_iff, Ne, reachesStep5_iff, ho]
  exact Option.some_ne_none o

/-- The records of a validation: one when the outcome is CRC_MISMATCH (R99). -/
def mismatchRecords (p : Params) (ack prev : Bytes) : List Diag :=
  if firstCause p ack prev = .crcMismatch then [⟨crc p.crcTable prev.tail, readWord ack 2, ack, prev⟩] else []

/-- The state an admitted validation leaves, in closed form: ACC by R96, the outcome by R108, the records by R99. -/
def validated (ack prev : Bytes) (s : State) : State :=
  { s with
    acc := if reachesStep5 s.params ack = true then crc s.params.crcTable prev.tail else s.acc
    results := s.results ++ [.outcome (firstCause s.params ack prev)]
    diags := s.diags ++ mismatchRecords s.params ack prev }

/-- Where there is an early outcome the closed form only returns it. -/
theorem validated_of_earlyOutcome {o : HostOutcome} (ho : earlyOutcome s.params.errCode ack = some o) :
    validated ack prev s = s.deliver (.outcome o) := by
  simp [validated, mismatchRecords, State.deliver, not_reachesStep5_of_earlyOutcome ho, firstCause_of_earlyOutcome ho,
    (earlyOutcome_ne_last ho).2]

/-- Step 5 leaves the state of the closed form, matching or not. -/
theorem checkPrevious_eq_validated (ho : earlyOutcome s.params.errCode ack = none) (hprev : prev ≠ []) :
    checkPrevious ack prev s = .next (validated ack prev s) := by
  obtain ⟨id, tail, rfl⟩ := List.exists_cons_of_ne_nil hprev
  have hreach := (reachesStep5_iff s.params ack).2 ho
  have hcause := firstCause_of_last (p := s.params) (prev := id :: tail) ho
  rw [checkPrevious_cons]
  by_cases heq : crc s.params.crcTable tail = readWord ack 2
  · rw [List.tail_cons, if_pos heq] at hcause
    simp [heq, validated, mismatchRecords, hreach, hcause, State.setAcc, State.deliver]
  · rw [List.tail_cons, if_neg heq] at hcause
    simp [heq, validated, mismatchRecords, hreach, hcause, State.setAcc, State.deliver, State.emitDiag]

/-- An admitted validation completes (R106). -/
theorem validateReply_of_admitted (h : admittedReply s.params ack prev = true) :
    validateReply ack prev s = .next (validated ack prev s) := by
  simp only [admittedReply, Bool.and_eq_true, Bool.not_eq_true', Bool.and_eq_false_imp, List.isEmpty_eq_false_iff] at h
  obtain ⟨⟨ha, hp⟩, hlast⟩ := h
  cases ho : earlyOutcome s.params.errCode ack with
  | some o => rw [validateReply_early ha hp ho, validated_of_earlyOutcome ho]
  | none => rw [validateReply_last ha hp ho, checkPrevious_eq_validated ho (hlast ((reachesStep5_iff s.params ack).2 ho))]

/-- A validation that is not admitted is refused, first for an operand over `MAX_LEN` (R106). -/
theorem validateReply_of_not_admitted (h : admittedReply s.params ack prev = false) :
    validateReply ack prev s =
      .refused (if (fits s.params ack && fits s.params prev) = true then .emptyPrevious else .operandTooLong) := by
  cases hf : fits s.params ack && fits s.params prev with
  | false => exact validateReply_of_not_fits hf
  | true =>
    rw [admittedReply, hf, Bool.true_and, Bool.not_eq_false', Bool.and_eq_true, List.isEmpty_iff] at h
    obtain ⟨hreach, rfl⟩ := h
    rw [Bool.and_eq_true] at hf
    exact validateReply_of_empty hf.1 ((reachesStep5_iff s.params ack).1 hreach)

/-- A validation answers exactly when it is admitted, and then with the state in closed form. -/
theorem validateReply_eq_next_iff :
    validateReply ack prev s = .next t ↔ admittedReply s.params ack prev = true ∧ t = validated ack prev s := by
  cases h : admittedReply s.params ack prev with
  | true =>
    rw [validateReply_of_admitted h, Host.Outcome.next.injEq, eq_comm]
    exact (and_iff_right rfl).symm
  | false =>
    rw [validateReply_of_not_admitted h]
    exact iff_of_false (fun h => by cases h) (fun h => by cases h.1)

theorem exec_of_admitted (h : admitted s.params i = true) : ∃ t, exec i s = .next t := by
  cases i using instr_cases with
  | crcInit => exact ⟨_, rfl⟩
  | crcByte b => exact ⟨_, rfl⟩
  | crcRead => exact ⟨_, rfl⟩
  | crcCompute buf => exact ⟨_, exec_crcCompute_of_fits h⟩
  | frStart n c => exact ⟨_, rfl⟩
  | frData payload reset =>
    cases reset with
    | true => exact ⟨_, exec_frData_reset h⟩
    | false => exact ⟨_, exec_frData_count h⟩
  | frSrst => exact ⟨_, rfl⟩
  | validation i ack prev hi =>
    rw [admitted_of_replyOf hi] at h
    rw [exec_of_replyOf hi]
    exact ⟨_, validateReply_of_admitted h⟩

theorem exec_of_not_admitted (h : admitted s.params i = false) :
    exec i s = .refused .operandTooLong ∨ exec i s = .refused .emptyPrevious := by
  cases i using instr_cases with
  | crcInit => cases h
  | crcByte b => cases h
  | crcRead => cases h
  | crcCompute buf => exact .inl (exec_crcCompute_of_not_fits h)
  | frStart n c => cases h
  | frData payload reset => exact .inl (exec_frData_of_not_fits reset h)
  | frSrst => cases h
  | validation i ack prev hi =>
    rw [admitted_of_replyOf hi] at h
    rw [exec_of_replyOf hi, validateReply_of_not_admitted h]
    split
    · exact .inr rfl
    · exact .inl rfl

/-- Steps 1 to 4 look at the length and the first two bytes of the reply alone (R97). -/
theorem earlyOutcome_congr (c : ErrCodes) (hl : ack.length = ack'.length) (h0 : ack.getD 0 0 = ack'.getD 0 0)
    (h1 : ack.getD 1 0 = ack'.getD 1 0) : earlyOutcome c ack = earlyOutcome c ack' := by
  simp only [earlyOutcome, hl, h0, h1]

/-- Two replies of one length, id, error byte and checksum field, and two previous packets of one tail, are validated alike
but for the two packets in the record (R97). -/
theorem validateReply_congr (h : validateReply ack (id :: tail) s = .next t) (hl : ack.length = ack'.length)
    (h0 : ack.getD 0 0 = ack'.getD 0 0) (h1 : ack.getD 1 0 = ack'.getD 1 0) (hfield : readWord ack 2 = readWord ack' 2) :
    ∃ u, validateReply ack' (id' :: tail) s = .next u ∧
      u.results = t.results ∧ u.acc = t.acc ∧ u.seq = t.seq ∧ u.diags.length = t.diags.length := by
  obtain ⟨ha, hp, hcases⟩ := validateReply_next h
  rw [fits_congr s.params hl] at ha
  have hp' : fits s.params (id' :: tail) = true := hp
  rw [earlyOutcome_congr _ hl h0 h1, hfield] at hcases
  obtain ⟨o, ho, rfl⟩ | ⟨ho, _, _, heq, ⟨hmatch, rfl⟩ | ⟨hne, rfl⟩⟩ := hcases
  · exact ⟨_, validateReply_early ha hp' ho, rfl, rfl, rfl, rfl⟩
  · cases heq
    exact ⟨_, exec_avValidate_match ha hp' ho hmatch, rfl, rfl, rfl, rfl⟩
  · cases heq
    exact ⟨_, exec_avValidate_mismatch ha hp' ho hne, rfl, rfl, rfl, by simp⟩

/-- A packet with another id than that of ACK ends in step 1 or 2 (R91, R92). -/
theorem earlyOutcome_of_no_ack (c : ErrCodes) (hid : id ≠ idAck) :
    earlyOutcome c (id :: rest) = some (if rest.length = 7 then .invalidMessageId else .sizeTooLarge) := by
  split
  case isTrue hl => exact earlyOutcome_of_id_ne c (congrArg (· + 1) hl) hid
  case isFalse hl => exact earlyOutcome_of_length_ne c fun h => hl (Nat.succ.inj h)

/-- A validation of a packet that is no ACK returns that outcome and changes no register. -/
theorem exec_of_no_ack (hi : replyOf i = some (id :: rest, prev)) (hid : id ≠ idAck)
    (ha : fits s.params (id :: rest) = true) (hp : fits s.params prev = true) :
    exec i s =
      .next { s with
        results := s.results ++ [.outcome (if rest.length = 7 then .invalidMessageId else .sizeTooLarge)] } := by
  rw [exec_of_replyOf hi]
  exact validateReply_early ha hp (earlyOutcome_of_no_ack _ hid)

/-- A well-formed reserved row validates its own bytes, and its id is not that of ACK (R53). -/
theorem replyOf_of_reserved
    (hmem : i ∈ [.pktRsv0407 id rest prev, .pktRsv080F id rest prev, .pktRsv101F id rest prev, .pktRsv203F id rest prev,
      .pktRsv407F id rest prev, .pktRsv80FF id rest prev])
    (hi : i.wf = true) : replyOf i = some (id :: rest, prev) ∧ id ≠ idAck := by
  simp only [List.mem_cons, List.not_mem_nil, or_false] at hmem
  obtain rfl | rfl | rfl | rfl | rfl | rfl := hmem
  all_goals
    obtain ⟨-, -, hack, -⟩ := ne_kinds_of_leading_bits (eq_of_beq hi) (by decide)
    exact ⟨rfl, hack⟩

/-- An ACK packet with the code of NONE reaches step 5 (R95). -/
theorem earlyOutcome_ackPacket_none (c : ErrCodes) (field : Word) (r0 r1 : Byte) :
    earlyOutcome c (ackPacket c.none field r0 r1) = none :=
  (earlyOutcome_eq_none_iff _ _).2 ⟨length_ackPacket _ _ _ _, rfl, rfl⟩

theorem mem_outcomeClasses_deviceReported {n : DeviceError} (hn : n ≠ .none) :
    OutcomeClass.deviceReported ∈ outcomeClasses (outcomeOf n) := by
  cases n with
  | none => exact absurd rfl hn
  | _ => decide

end

end Sys2Proof.Machine
end

section
/-! PROOFS. The statements about the validation across instructions, about the received packets, and about what is refused. -/

namespace Sys2Proof.Proofs

open Sys2Proof.Machine

/-- Settles O37: a packet just returned is not empty and the parameters are the same, so the ACK reaches step 5, where its
field decides. -/
theorem conformingAckOfABuiltPacketIsAccepted : Obligations.ConformingAckOfABuiltPacketIsAccepted := by
  intro s t i packet v r0 r1 h hresults hfits h8
  obtain ⟨id, tail, rfl⟩ := List.exists_cons_of_ne_nil (ne_nil_of_emittable (emittable_of_exec h hresults))
  have hack : ∀ field, fits s.params (ackPacket s.params.errCode.none field r0 r1) = true := fun field =>
    fits_of_length_le h8 (by simp)
  rw [← (exec_keeps_params_and_requests h).1] at hfits hack ⊢
  have hlast := fun field => earlyOutcome_ackPacket_none t.params.errCode field r0 r1
  refine ⟨exec_avValidate_match (hack _) hfits (hlast _) (readWord_ackPacket_crc _ _ _ _).symm, fun hv => ?_⟩
  refine ⟨_, exec_avValidate_mismatch (hack v) hfits (hlast v) ?_, rfl, rfl, rfl⟩
  rw [readWord_ackPacket_crc]
  exact hv.symm

/-- Settles O38: the replies agree in length, id, error byte and checksum field. -/
theorem reservedBytesAndPreviousIdAreIgnored : Obligations.ReservedBytesAndPreviousIdAreIgnored :=
  fun _ _ _ _ _ _ _ _ _ _ _ _ _ _ h => validateReply_congr h rfl rfl rfl rfl

/-- Settles O39. -/
theorem emptyPreviousIsRefusedOnlyAtTheLastStep : Obligations.EmptyPreviousIsRefusedOnlyAtTheLastStep := by
  intro s ack ha
  refine ⟨fun hreach => validateReply_of_empty ha ((reachesStep5_iff s.params ack).1 hreach), fun hreach => ?_⟩
  obtain ⟨o, ho⟩ := earlyOutcome_of_not_reaches hreach
  exact ⟨_, o, exec_avValidate_early ha (fits_nil s.params) ho, rfl⟩

/-- Settles O42: the early outcomes by their conditions, and the two of step 5. -/
theorem outcomeClassFollowsTheReply : Obligations.OutcomeClassFollowsTheReply := by
  intro p ack prev o _ h
  have hframe : ack.length = 8 → ack.getD 0 0 = idAck → ¬(ack.length ≠ 8 ∨ ack.getD 0 0 ≠ 0x02#8) :=
    fun hl hid => not_or.2 ⟨not_not.2 hl, not_not.2 hid⟩
  obtain hearly | ⟨hlast, ho⟩ := answers_cases h
  · obtain ⟨hl, rfl⟩ | ⟨-, hid, rfl⟩ | ⟨hl, hid, he, rfl⟩ | ⟨hl, hid, n, hn, he, rfl⟩ := earlyOutcome_eq_some hearly
    · rw [if_pos (.inl hl)]
      decide
    · rw [if_pos (.inr hid)]
      decide
    · have hbyte : ack.getD 1 0 ≠ p.errCode.none := ((decodeErr_eq_none_iff _ _).1 he .none).symm
      rw [if_neg (hframe hl hid), if_neg hbyte, if_pos rfl]
      decide
    · rw [if_neg (hframe hl hid), if_neg (ne_none_code_of_decodeErr he hn), if_neg (outcomeOf_ne_unknownErrorCode n)]
      exact mem_outcomeClasses_deviceReported hn
  · obtain ⟨hl, hid, hbyte⟩ := (earlyOutcome_eq_none_iff p.errCode ack).1 hlast
    rw [if_neg (hframe hl hid), if_pos hbyte]
    obtain rfl | rfl := ho <;> decide

/-- Settles O43: each row validates its own bytes, whose id is not that of ACK. -/
theorem packetsThatAreNoAckAreNotAccepted : Obligations.PacketsThatAreNoAckAreNotAccepted := by
  intro s prev hp
  refine ⟨fun size crc h8 => ?_, fun seq payload ha => ?_, fun rest ha => ?_, fun i id rest hmem hi ha => ?_⟩
  · have ha : fits s.params (startPacket size crc) = true := fits_of_length_le h8 (by simp)
    exact (exec_of_no_ack rfl (by decide) ha hp).trans (by simp)
  · exact (exec_of_no_ack rfl (by decide) ha hp).trans (by simp)
  · exact exec_of_no_ack rfl (by decide) ha hp
  · obtain ⟨hreply, hid⟩ := replyOf_of_reserved hmem hi
    exact exec_of_no_ack hreply hid ha hp

/-- Settles O44: steps 3 and 4 by the error byte, step 5 by the checksum field. -/
theorem ackPacketIsDecidedByItsFields : Obligations.AckPacketIsDecidedByItsFields := by
  intro s err field r0 r1 id tail hc h8 hp
  have ha : fits s.params (ackPacket err field r0 r1) = true := fits_of_length_le h8 (by simp)
  have hl := length_ackPacket err field r0 r1
  refine ⟨fun n hn herr => ?_, fun herr => ?_, ?_, ?_⟩
  · have hknown : decodeErr s.params.errCode err = some n := by rw [herr, decodeErr_errByte hc]
    exact exec_avValidate_early ha hp (earlyOutcome_of_deviceError hl rfl hknown hn)
  · have hunknown : decodeErr s.params.errCode err = none :=
      (decodeErr_eq_none_iff _ err).2 fun n => (herr n).symm
    exact exec_avValidate_early ha hp (earlyOutcome_of_unknown hl rfl hunknown)
  · rintro rfl heq
    have hfield := readWord_ackPacket_crc s.params.errCode.none field r0 r1
    have h := exec_avValidate_match ha hp (earlyOutcome_ackPacket_none _ field r0 r1) (heq.symm.trans hfield.symm)
    rw [← heq] at h
    exact h
  · rintro rfl hne
    have hfield := readWord_ackPacket_crc s.params.errCode.none field r0 r1
    have h := exec_avValidate_mismatch ha hp (earlyOutcome_ackPacket_none _ field r0 r1)
      fun heq => hne (hfield.symm.trans heq.symm)
    rw [hfield] at h
    exact h

/-- Settles O45: an admitted instruction answers, and one that is not is refused, which is no answer. -/
theorem onlyTheListedRequestsAreRefused : Obligations.OnlyTheListedRequestsAreRefused := by
  intro i s
  refine ⟨⟨fun ⟨t, ht⟩ => ?_, exec_of_admitted⟩, exec_of_not_admitted⟩
  by_contra h
  obtain hrefused | hrefused := exec_of_not_admitted (Bool.eq_false_iff.2 h)
  · rw [hrefused] at ht
    cases ht
  · rw [hrefused] at ht
    cases ht

end Sys2Proof.Proofs
end

section
/-! SUPPORT. What no instruction can see: the accumulator but for two, the counter but for one, the table where no entry is read;
and what an instruction does the second time. -/

namespace Sys2Proof.Machine

section
variable {i : Instr} {ack prev : Bytes} {s s' t : State} {r : Refusal}

/-- A validation is refused by its operands and the parameters alone. -/
theorem validateReply_refused_congr (h : validateReply ack prev s = .refused r) (hp : s'.params = s.params) :
    validateReply ack prev s' = .refused r := by
  cases hadm : admittedReply s.params ack prev with
  | true =>
    rw [validateReply_of_admitted hadm] at h
    cases h
  | false =>
    rw [validateReply_of_not_admitted hadm] at h
    rw [validateReply_of_not_admitted (hp ▸ hadm), hp]
    exact h

/-- An instruction is refused by its operands and the parameters alone: it looks at no register first. -/
theorem exec_refused_congr (h : exec i s = .refused r) (hp : s'.params = s.params) : exec i s' = .refused r := by
  cases i using instr_cases with
  | crcInit => cases h
  | crcByte b => cases h
  | crcRead => cases h
  | crcCompute buf =>
    cases hf : fits s.params buf with
    | true =>
      rw [exec_crcCompute_of_fits hf] at h
      cases h
    | false => exact (exec_crcCompute_of_not_fits (hp ▸ hf)).trans ((exec_crcCompute_of_not_fits hf).symm.trans h)
  | frStart n c => cases h
  | frData payload reset =>
    cases hf : fits s.params payload with
    | true =>
      obtain ⟨t, ht⟩ := exec_of_admitted (i := .frData payload reset) hf
      rw [ht] at h
      cases h
    | false => exact (exec_frData_of_not_fits reset (hp ▸ hf)).trans ((exec_frData_of_not_fits reset hf).symm.trans h)
  | frSrst => cases h
  | validation i ack prev hi =>
    rw [exec_of_replyOf hi] at h ⊢
    exact validateReply_refused_congr h hp

/-- An instruction that does not read ACC goes on from any other ACC to the same state but for ACC (R26, R96). -/
theorem exec_with_acc (hr : readsAcc i = false) (h : exec i s = .next t) (a : Word) :
    ∃ b, exec i { s with acc := a } = .next { t with acc := b } := by
  cases i using instr_cases with
  | crcInit => cases h; exact ⟨_, rfl⟩
  | crcByte b => cases hr
  | crcRead => cases hr
  | crcCompute buf =>
    obtain ⟨hf, rfl⟩ := exec_crcCompute_next h
    have hf' : fits { s with acc := a }.params buf = true := hf
    exact ⟨_, exec_crcCompute_of_fits hf'⟩
  | frStart n c => cases h; exact ⟨_, rfl⟩
  | frData payload reset =>
    obtain ⟨hf, rfl⟩ := exec_frData_next h
    have hf' : fits { s with acc := a }.params payload = true := hf
    cases reset with
    | true => exact ⟨_, exec_frData_reset hf'⟩
    | false => exact ⟨_, exec_frData_count hf'⟩
  | frSrst => cases h; exact ⟨_, rfl⟩
  | validation i ack prev hi =>
    rw [exec_of_replyOf hi, validateReply_eq_next_iff] at h
    obtain ⟨hadm, rfl⟩ := h
    rw [exec_of_replyOf hi]
    have hadm' : admittedReply { s with acc := a }.params ack prev = true := hadm
    exact ⟨_, validateReply_of_admitted hadm'⟩

/-- An instruction that does not read SEQ goes on from any other SEQ to the same state but for SEQ, and writes the same number
there if it writes one (R26, R96). -/
theorem exec_with_seq (hr : readsSeq i = false) (h : exec i s = .next t) (n : Byte) :
    exec i { s with seq := n } = .next { t with seq := if writesSeq i = true then t.seq else n } := by
  cases i using instr_cases with
  | crcInit => cases h; rfl
  | crcByte b => cases h; rfl
  | crcRead => cases h; rfl
  | crcCompute buf =>
    obtain ⟨hf, rfl⟩ := exec_crcCompute_next h
    have hf' : fits { s with seq := n }.params buf = true := hf
    exact exec_crcCompute_of_fits hf'
  | frStart n c => cases h; rfl
  | frData payload reset =>
    obtain ⟨hf, rfl⟩ := exec_frData_next h
    have hf' : fits { s with seq := n }.params payload = true := hf
    cases reset with
    | true => exact exec_frData_reset hf'
    | false => cases hr
  | frSrst => cases h; rfl
  | validation i ack prev hi =>
    rw [exec_of_replyOf hi, validateReply_eq_next_iff] at h
    obtain ⟨hadm, rfl⟩ := h
    have hadm' : admittedReply { s with seq := n }.params ack prev = true := hadm
    rw [exec_of_replyOf hi, writesSeq_of_replyOf hi, validateReply_of_admitted hadm']
    rfl

/-- The parameters with another table. -/
def withTable (p : Params) (table : Vector Word 256) : Params := { p with crcTable := table }

/-- A validation that reads no entry has the same first cause with any table. -/
theorem firstCause_withTable {p : Params} (table : Vector Word 256)
    (hr : (reachesStep5 p ack && !prev.tail.isEmpty) = false) :
    firstCause (withTable p table) ack prev = firstCause p ack prev := by
  cases ho : earlyOutcome p.errCode ack with
  | some o =>
    have ho' : earlyOutcome (withTable p table).errCode ack = some o := ho
    rw [firstCause_of_earlyOutcome ho, firstCause_of_earlyOutcome ho']
  | none =>
    have ho' : earlyOutcome (withTable p table).errCode ack = none := ho
    rw [(reachesStep5_iff p ack).2 ho, Bool.true_and, Bool.not_eq_false', List.isEmpty_iff] at hr
    rw [firstCause_of_last ho, firstCause_of_last ho', hr]
    rfl

theorem validated_withTable (table : Vector Word 256)
    (hr : (reachesStep5 s.params ack && !prev.tail.isEmpty) = false) :
    validated ack prev { s with params := withTable s.params table } =
      { validated ack prev s with params := withTable s.params table } := by
  cases ho : earlyOutcome s.params.errCode ack with
  | some o =>
    have ho' : earlyOutcome (withTable s.params table).errCode ack = some o := ho
    rw [validated_of_earlyOutcome ho]
    exact validated_of_earlyOutcome ho'
  | none =>
    have hcause := firstCause_withTable table hr
    rw [(reachesStep5_iff s.params ack).2 ho, Bool.true_and, Bool.not_eq_false', List.isEmpty_iff] at hr
    simp only [validated, mismatchRecords, hcause, hr]
    rfl

/-- An instruction that reads no entry of the table does the same with any other table (R26). -/
theorem exec_withTable (hr : readsTable s.params i = false) (h : exec i s = .next t) (table : Vector Word 256) :
    exec i { s with params := withTable s.params table } =
      .next { t with params := withTable s.params table } := by
  cases i using instr_cases with
  | crcInit => cases h; rfl
  | crcByte b => cases hr
  | crcRead => cases h; rfl
  | crcCompute buf =>
    obtain rfl : buf = [] := by simpa [readsTable] using hr
    obtain ⟨hf, rfl⟩ := exec_crcCompute_next h
    exact exec_crcCompute_of_fits (fits_nil _)
  | frStart n c => cases h; rfl
  | frData payload reset =>
    obtain ⟨hf, rfl⟩ := exec_frData_next h
    have hf' : fits { s with params := withTable s.params table }.params payload = true := hf
    cases reset with
    | true => exact exec_frData_reset hf'
    | false => exact exec_frData_count hf'
  | frSrst => cases h; rfl
  | validation i ack prev hi =>
    rw [exec_of_replyOf hi, validateReply_eq_next_iff] at h
    obtain ⟨hadm, rfl⟩ := h
    rw [readsTable_of_replyOf hi] at hr
    have hadm' : admittedReply { s with params := withTable s.params table }.params ack prev = true := hadm
    rw [exec_of_replyOf hi, validateReply_of_admitted hadm', validated_withTable table hr]

/-- A validation repeated finds ACC as it leaves it (R36). -/
theorem acc_validated_validated (ack prev : Bytes) (s : State) :
    (validated ack prev (validated ack prev s)).acc = (validated ack prev s).acc := by
  simp only [validated]
  split <;> rfl

/-- An idempotent instruction issued again leaves the registers as they are and returns its value again (R36). -/
theorem exec_again (hi : idempotent i = true) (h : exec i s = .next t) :
    ∃ u, exec i t = .next u ∧ u.acc = t.acc ∧ u.seq = t.seq ∧ u.results.getLast? = t.results.getLast? := by
  cases i using instr_cases with
  | crcInit => cases h; exact ⟨_, rfl, rfl, rfl, by simp⟩
  | crcByte b => cases hi
  | crcRead => cases h; exact ⟨_, rfl, rfl, rfl, by simp⟩
  | crcCompute buf =>
    obtain ⟨hf, rfl⟩ := exec_crcCompute_next h
    exact ⟨_, exec_crcCompute_of_fits hf, rfl, rfl, by simp⟩
  | frStart n c => cases h; exact ⟨_, rfl, rfl, rfl, by simp⟩
  | frData payload reset => cases hi
  | frSrst => cases h; exact ⟨_, rfl, rfl, rfl, by simp⟩
  | validation i ack prev hreply =>
    rw [exec_of_replyOf hreply, validateReply_eq_next_iff] at h
    obtain ⟨hadm, rfl⟩ := h
    have hadm' : admittedReply (validated ack prev s).params ack prev = true := hadm
    rw [exec_of_replyOf hreply]
    exact ⟨_, validateReply_of_admitted hadm', acc_validated_validated ack prev s, rfl, by simp [validated]⟩

end

end Sys2Proof.Machine
end

section
/-! PROOFS. The statements about what an instruction cannot see and about repeating it. -/

namespace Sys2Proof.Proofs

open Sys2Proof.Machine

/-- Settles O47, by induction on the run: each instruction goes on, or is refused, from any ACC. -/
theorem runsThatDoNotReadAccCannotSeeIt : Obligations.RunsThatDoNotReadAccCannotSeeIt := by
  intro is
  induction is with
  | nil => exact fun s a _ => ⟨_, rfl, rfl, rfl, rfl, rfl⟩
  | cons i is ih =>
    intro s a h
    obtain ⟨hi, his⟩ := List.forall_mem_cons.1 h
    cases hexec : exec i s with
    | next t =>
      obtain ⟨b, hb⟩ := exec_with_acc hi hexec a
      rw [execAll_cons_of_next hexec, execAll_cons_of_next hb]
      exact ih t b his
    | fault r => cases r
    | refused r =>
      rw [execAll_cons_of_refused hexec]
      exact execAll_cons_of_refused (exec_refused_congr hexec rfl)

/-- Settles O48. -/
theorem onlyDataPacketsReadTheCounter : Obligations.OnlyDataPacketsReadTheCounter :=
  fun _ _ _ n hr h => ⟨_, exec_with_seq hr h n, rfl, rfl, rfl, rfl⟩

/-- Settles O49. -/
theorem onlyTheChecksumReadsTheTable : Obligations.OnlyTheChecksumReadsTheTable :=
  fun _ _ _ table hr h => exec_withTable hr h table

/-- Settles O50. -/
theorem idempotentInstructionsRepeat : Obligations.IdempotentInstructionsRepeat :=
  fun _ _ _ hi h => exec_again hi h

end Sys2Proof.Proofs
end

section
/-! SUPPORT. A round of the host's transfer in closed form: what it builds, the exchange, and where the transfer stands
after it. -/

namespace Sys2Proof.Machine

/-- Only a reply that reaches step 5 and carries the checksum of the previous packet's tail has no cause (R108). -/
theorem firstCause_eq_none_iff (p : Params) (ack prev : Bytes) :
    firstCause p ack prev = .none ↔ reachesStep5 p ack = true ∧ readWord ack 2 = crc p.crcTable prev.tail := by
  cases ho : earlyOutcome p.errCode ack with
  | some o =>
    rw [firstCause_of_earlyOutcome ho, not_reachesStep5_of_earlyOutcome ho]
    exact iff_of_false (earlyOutcome_ne_last ho).1 (fun h => Bool.false_ne_true h.1)
  | none =>
    rw [firstCause_of_last ho, (reachesStep5_iff p ack).2 ho, eq_comm (a := readWord ack 2)]
    split
    case isTrue heq => exact iff_of_true rfl ⟨rfl, heq⟩
    case isFalse hne => exact iff_of_false (by decide) (fun h => hne h.2)

/-- The state after a command that returned `packet` and left `counter` in SEQ. -/
def built (packet : Bytes) (counter : Byte) (s : State) : State :=
  { s with seq := counter, results := s.results ++ [.bytes packet] }

section
variable {device : Bytes → Bytes} {build : Instr} {packet : Bytes} {counter : Byte} {s : State}

/-- With a previous packet that is not empty a validation is admitted exactly within `MAX_LEN` (R98, R106). -/
theorem admittedReply_of_ne_nil {p : Params} {ack prev : Bytes} (h : prev ≠ []) :
    admittedReply p ack prev = (fits p prev && fits p ack) := by
  simp [admittedReply, h, Bool.and_comm]

/-- An exchange within `MAX_LEN` returns the outcome of the first cause (R108, R112). -/
theorem exchange_of_fits (hb : exec build s = .next (built packet counter s)) (hne : packet ≠ [])
    (hf : (fits s.params packet && fits s.params (device packet)) = true) :
    exchange device build s =
      some (firstCause s.params (device packet) packet, validated (device packet) packet (built packet counter s)) := by
  have hadm : admittedReply (built packet counter s).params (device packet) packet = true :=
    (admittedReply_of_ne_nil hne).trans hf
  have hv : exec (.avValidate (device packet) packet) (built packet counter s) =
      .next (validated (device packet) packet (built packet counter s)) := validateReply_of_admitted hadm
  have hpacket : (built packet counter s).results.getLast? = some (.bytes packet) := List.getLast?_concat
  have hresult : (validated (device packet) packet (built packet counter s)).results.getLast? =
      some (.outcome (firstCause s.params (device packet) packet)) := List.getLast?_concat
  simp only [exchange, hb, hpacket, hv, hresult]

/-- An exchange beyond `MAX_LEN` has no outcome (R106, R112). -/
theorem exchange_of_not_fits (hb : exec build s = .next (built packet counter s)) (hne : packet ≠ [])
    (hf : (fits s.params packet && fits s.params (device packet)) = false) : exchange device build s = none := by
  have hadm : admittedReply (built packet counter s).params (device packet) packet = false :=
    (admittedReply_of_ne_nil hne).trans hf
  obtain ⟨r, hv⟩ : ∃ r, exec (.avValidate (device packet) packet) (built packet counter s) = .refused r :=
    ⟨_, validateReply_of_not_admitted hadm⟩
  have hpacket : (built packet counter s).results.getLast? = some (.bytes packet) := List.getLast?_concat
  simp only [exchange, hb, hpacket, hv]

theorem exchange_of_refused {r : Refusal} (hb : exec build s = .refused r) : exchange device build s = none := by
  simp only [exchange, hb]

end

/-- The transfer in `x` builds `packet` from the state `s`, leaves `counter` in SEQ, and goes on to chunk `next` (R112). -/
def builds (appSize : Nat) (appCrc : Word) (chunks : List Bytes) (s : State) (x : Transfer) (packet : Bytes) (next : Nat)
    (counter : Byte) : Prop :=
  (x = .sendStart ∧ packet = startPacket (BitVec.ofNat 24 appSize) appCrc ∧ next = 0 ∧ counter = s.seq) ∨
    (∃ k, x = .sendData k ∧ packet = 0x03#8 :: s.seq :: chunks.getD k [] ∧ next = k + 1 ∧ counter = s.seq + 1)

section
variable {device : Bytes → Bytes} {appSize : Nat} {appCrc : Word} {chunks : List Bytes} {s : State} {x : Transfer}
  {packet : Bytes} {next : Nat} {counter : Byte}

theorem exec_frStart_built (s : State) :
    exec (.frStart appSize appCrc) s = .next (built (startPacket (BitVec.ofNat 24 appSize) appCrc) s.seq s) :=
  exec_frStart appSize appCrc s

theorem exec_frData_built {payload : Bytes} (h : fits s.params payload = true) :
    exec (.frData payload false) s = .next (built (0x03#8 :: s.seq :: payload) (s.seq + 1) s) :=
  exec_frData_count h

/-- A round within `MAX_LEN` goes where the first cause takes the transfer (R108, R112). -/
theorem driveOnce_of_fits (hx : builds appSize appCrc chunks s x packet next counter)
    (hf : (fits s.params packet && fits s.params (device packet)) = true) :
    driveOnce device appSize appCrc chunks (x, s) =
      some (Transfer.heard chunks.length (firstCause s.params (device packet) packet) (.waitAck next),
        validated (device packet) packet (built packet counter s)) := by
  obtain ⟨rfl, rfl, rfl, rfl⟩ | ⟨k, rfl, rfl, rfl, rfl⟩ := hx
  · have hne : startPacket (BitVec.ofNat 24 appSize) appCrc ≠ [] := List.cons_ne_nil _ _
    rw [driveOnce, exchange_of_fits (exec_frStart_built s) hne hf]
    rfl
  · have hpayload : fits s.params (chunks.getD k []) = true :=
      fits_of_length_le ((Bool.and_eq_true _ _).mp hf).1 (Nat.le_add_right _ 2)
    rw [driveOnce, exchange_of_fits (exec_frData_built hpayload) (List.cons_ne_nil _ _) hf]
    rfl

/-- A round beyond `MAX_LEN` does not complete: the chunk alone may be too long already (R38). -/
theorem driveOnce_of_not_fits (hx : builds appSize appCrc chunks s x packet next counter)
    (hf : (fits s.params packet && fits s.params (device packet)) = false) :
    driveOnce device appSize appCrc chunks (x, s) = none := by
  obtain ⟨rfl, rfl, -, -⟩ | ⟨k, rfl, rfl, -, -⟩ := hx
  · have hne : startPacket (BitVec.ofNat 24 appSize) appCrc ≠ [] := List.cons_ne_nil _ _
    rw [driveOnce, exchange_of_not_fits (exec_frStart_built s) hne hf]
    rfl
  · cases hpayload : fits s.params (chunks.getD k []) with
    | true =>
      rw [driveOnce, exchange_of_not_fits (exec_frData_built hpayload) (List.cons_ne_nil _ _) hf]
      rfl
    | false =>
      rw [driveOnce, exchange_of_refused (exec_frData_of_not_fits false hpayload)]
      rfl

theorem packet_ne_nil_of_builds (hx : builds appSize appCrc chunks s x packet next counter) : packet ≠ [] := by
  obtain ⟨-, rfl, -, -⟩ | ⟨k, -, rfl, -, -⟩ := hx <;> exact List.cons_ne_nil _ _

/-- A conforming ACK leaves no cause (R116). -/
theorem firstCause_conformingAck (p : Params) (packet : Bytes) (r0 r1 : Byte) :
    firstCause p (conformingAck p packet r0 r1) packet = .none :=
  (firstCause_eq_none_iff _ _ _).2
    ⟨(reachesStep5_iff _ _).2 (earlyOutcome_ackPacket_none _ _ _ _), readWord_ackPacket_crc _ _ _ _⟩

end

/-- A device that answers every packet as R116 describes. -/
def conforms (p : Params) (device : Bytes → Bytes) : Prop :=
  ∀ packet, packet ≠ [] → ∃ r0 r1, device packet = conformingAck p packet r0 r1

section
variable {device : Bytes → Bytes} {appSize : Nat} {appCrc : Word} {chunks : List Bytes} {s : State} {x : Transfer}
  {packet : Bytes} {next : Nat} {counter : Byte}

/-- A round against a conforming device goes on without a record, where `MAX_LEN` admits the packet and 8 bytes. -/
theorem driveOnce_conforming (hx : builds appSize appCrc chunks s x packet next counter)
    (hdevice : conforms s.params device) (hf : fits s.params packet = true)
    (h8 : fits s.params (List.replicate 8 0x00#8) = true) :
    ∃ t, driveOnce device appSize appCrc chunks (x, s) =
        some (Transfer.heard chunks.length .none (.waitAck next), t) ∧
      t.seq = counter ∧ t.diags = s.diags ∧ t.params = s.params := by
  obtain ⟨r0, r1, hack⟩ := hdevice packet (packet_ne_nil_of_builds hx)
  have hcause : firstCause s.params (device packet) packet = .none := by rw [hack, firstCause_conformingAck]
  have hfack : fits s.params (device packet) = true := by
    rw [hack]
    exact fits_of_length_le h8 (length_ackPacket _ _ _ _).le
  have hround := driveOnce_of_fits hx ((Bool.and_eq_true _ _).mpr ⟨hf, hfack⟩)
  rw [hcause] at hround
  refine ⟨_, hround, rfl, ?_, rfl⟩
  have hrecords : mismatchRecords s.params (device packet) packet = [] := by
    rw [mismatchRecords, hcause, if_neg (by decide)]
  exact (congrArg (s.diags ++ ·) hrecords).trans (List.append_nil _)

/-- From chunk `k` on, `n` chunks before the end, a transfer against a conforming device is done in `n` rounds. -/
theorem drive_conforming {p : Params} (hdevice : conforms p device)
    (hchunks : ∀ c ∈ chunks, ∀ q : Byte, fits p (0x03#8 :: q :: c) = true)
    (h8 : fits p (List.replicate 8 0x00#8) = true) (n k : Nat) (hk : k + n = chunks.length) (s : State)
    (hs : s.params = p) :
    ∃ t, drive device appSize appCrc chunks n (Transfer.heard chunks.length .none (.waitAck k), s) = some (.done, t) ∧
      t.seq = s.seq + BitVec.ofNat 8 n ∧ t.diags = s.diags ∧ t.params = s.params := by
  induction n generalizing k s with
  | zero =>
    obtain rfl : k = chunks.length := hk
    exact ⟨s, by simp [drive, Transfer.heard], (BitVec.add_zero s.seq).symm, rfl, rfl⟩
  | succ n ih =>
    have hlt : k < chunks.length := by omega
    have hheard : Transfer.heard chunks.length .none (.waitAck k) = .sendData k := by simp [Transfer.heard, hlt]
    have hf : fits s.params (0x03#8 :: s.seq :: chunks.getD k []) = true := by
      rw [hs, List.getD_eq_getElem _ _ hlt]
      exact hchunks _ (List.getElem_mem hlt) s.seq
    obtain ⟨u, hu, hseq, hdiags, hparams⟩ := driveOnce_conforming (device := device) (appSize := appSize)
      (appCrc := appCrc) (.inr ⟨k, rfl, rfl, rfl, rfl⟩) (hs ▸ hdevice) hf (hs ▸ h8)
    obtain ⟨t, ht, htseq, htdiags, htparams⟩ := ih (k + 1) (by omega) u (hparams.trans hs)
    refine ⟨t, ?_, ?_, htdiags.trans hdiags, htparams.trans hparams⟩
    · simp only [drive, hheard, hu, ht]
    · rw [htseq, hseq, Nat.add_comm n 1, BitVec.ofNat_add, ← BitVec.add_assoc]
      rfl

end

/-- A transfer that has failed stays so. -/
theorem drive_failed (device : Bytes → Bytes) (appSize : Nat) (appCrc : Word) (chunks : List Bytes) (s : State)
    (o : HostOutcome) (n : Nat) : drive device appSize appCrc chunks n (.failed o, s) = some (.failed o, s) := by
  induction n with
  | zero => rfl
  | succ n ih => exact ih

end Sys2Proof.Machine
end

section
/-! PROOFS. The statements about the host's transfer. -/

namespace Sys2Proof.Proofs

open Sys2Proof.Machine

/-- Settles O53: a round for START, then one for each chunk. -/
theorem transferWithAConformingDeviceIsDone : Obligations.TransferWithAConformingDeviceIsDone := by
  intro s device appSize appCrc chunks hlen hdevice
  have h8 : fits s.params (List.replicate 8 0x00#8) = true := (fits_iff _ _).2 fun m hm => (hlen m hm).1
  have hchunks : ∀ c ∈ chunks, ∀ q : Byte, fits s.params (0x03#8 :: q :: c) = true := fun c hc q =>
    (fits_iff _ _).2 fun m hm => (hlen m hm).2 c hc
  have hstart : fits s.params (startPacket (BitVec.ofNat 24 appSize) appCrc) = true := fits_of_length_le h8 (by simp)
  obtain ⟨u, hu, hseq, hdiags, hparams⟩ := driveOnce_conforming (chunks := chunks) (.inl ⟨rfl, rfl, rfl, rfl⟩) hdevice
    hstart h8
  obtain ⟨t, ht, htseq, htdiags, htparams⟩ :=
    drive_conforming (appSize := appSize) (appCrc := appCrc) hdevice hchunks h8 chunks.length 0 (Nat.zero_add _) u hparams
  refine ⟨t, ?_, by rw [htseq, hseq], htdiags.trans hdiags, htparams.trans hparams⟩
  simp only [drive, hu, ht]

/-- Settles O54: the round in closed form; its first cause is NONE exactly on the right ACK. -/
theorem onlySuccessAdvancesATransfer : Obligations.OnlySuccessAdvancesATransfer := by
  refine ⟨fun device appSize appCrc chunks s x packet next counter hx => ⟨driveOnce_of_not_fits hx, fun hf => ?_⟩,
    drive_failed⟩
  refine ⟨_, _, driveOnce_of_fits hx hf, rfl, fun hreach => if_pos hreach, fun hreach => ?_, fun hright => ?_,
    fun hwrong => ?_⟩
  · exact if_neg (Bool.eq_false_iff.1 hreach)
  · rw [(firstCause_eq_none_iff _ _ _).2 hright]
    rfl
  · have hcause := (firstCause_eq_none_iff s.params (device packet) packet).not.2 hwrong
    exact ⟨hcause, if_neg hcause⟩

end Sys2Proof.Proofs
end
